-- ==== Sys2Proof/Word.lean ====
section
/-! DEFINITION. The word types of the E1-SYNC CORE (00_scope.md R10: `uN` and the bit patterns of `iN`). -/

namespace Sys2Proof

/-- A 32-bit quantity: an operation word, a line word, a timestamp, the bit pattern of an `i32` register. -/
abbrev Word := BitVec 32

/-- A 16-bit quantity: the capture counter, the epoch, the frame timer (00_scope.md R7: `CNT_W`, `OVC_W`, `FT_W`). -/
abbrev Half := BitVec 16

/-- One byte of a realigner frame (20_memory.md R60). -/
abbrev Byte := BitVec 8

end Sys2Proof
end

