-- ==== Sys2Proof/Syntax.lean ====
section
/-! DEFINITION. The operations of the block (30_encoding.md R85: one constructor per row of spec/opcode_table.json), the
agents that issue them, and what the environment supplies: issued operation words with their operand ports, callback items,
and the events of the schedule. -/

namespace Sys2Proof

/-- The edge kind of CAP_EDGE, `INST[0]` (30_encoding.md R83). -/
inductive EdgeKind where
  | rising
  | falling
  deriving DecidableEq, Repr, Inhabited

/-- A direction of the frame exchange: `rx` is d = 0 (receive), `tx` is d = 1 (transmit) (30_encoding.md R83). -/
inductive Dir where
  | rx
  | tx
  deriving DecidableEq, Repr, Inhabited

/-- The `dir` of PHASE_REQUEST, `IMM[1:0]`: Increase = 1, Decrease = 2 (30_encoding.md R84). -/
inductive Nudge where
  | increase
  | decrease
  deriving DecidableEq, Repr, Inhabited

/-- The operations of 30_encoding.md R85. The data operands (ports A and B) are no part of the operation (R82). -/
inductive Instr where
  /-- RB_PUT, ring `i` (40_ring_buffer.md R101). -/
  | rbPut (i : BitVec 8)
  /-- RB_GET, ring `i` (40_ring_buffer.md R103). -/
  | rbGet (i : BitVec 8)
  /-- CAP_CNT_TICK (41_capture.md R120). -/
  | capCntTick
  /-- CAP_EDGE (41_capture.md R121). -/
  | capEdge (kind : EdgeKind)
  /-- CAP_ISR (41_capture.md R122). -/
  | capIsr
  /-- CAP_POLL (41_capture.md R126). -/
  | capPoll
  /-- STEER_PULSE (42_steering.md R140). -/
  | steerPulse
  /-- XCH_START (43_frame_exchange.md R170). -/
  | xchStart
  /-- DMA_WORD of direction `d` (43_frame_exchange.md R171). -/
  | dmaWord (d : Dir)
  /-- XCH_ISR of direction `d` (43_frame_exchange.md R174). -/
  | xchIsr (d : Dir)
  /-- ALIGN_STEP (44_alignment.md R190). -/
  | alignStep
  /-- PHASE_REQUEST (45_phase_adjust.md R200). -/
  | phaseRequest (dir : Nudge)
  /-- FT_TICK (45_phase_adjust.md R202). -/
  | ftTick
  /-- FT_ISR (45_phase_adjust.md R203). -/
  | ftIsr
  /-- RA_SET_ALIGNMENT, realigner `i`, `n_bits` (46_realigner.md R220). -/
  | raSetAlignment (i : BitVec 8) (nBits : BitVec 16)
  /-- RA_REALIGN_FRAME, realigner `i` (46_realigner.md R221). -/
  | raRealignFrame (i : BitVec 8)
  /-- STATS_SNAPSHOT (60_exceptions.md R262). -/
  | statsSnapshot
  deriving DecidableEq, Repr, Inhabited

/-- The hardware agents (00_scope.md R17). -/
inductive HwAgent where
  | capcnt
  | dmaRx
  | dmaTx
  | ftimer
  deriving DecidableEq, Repr, Inhabited

/-- The agents that issue operations (00_scope.md R17); ENV issues none. -/
inductive Agent where
  | hw (a : HwAgent)
  | isr
  | poll
  deriving DecidableEq, Repr, Inhabited

/-- The two execution contexts (60_exceptions.md R256); the declared side or owner of an instance is one of them. -/
inductive Ctx where
  | poll
  | isr
  deriving DecidableEq, Repr, Inhabited

/-- The interrupt handlers of 10_state.md R56. -/
inductive Handler where
  | capIsr
  | xchIsr (d : Dir)
  | ftIsr
  deriving DecidableEq, Repr, Inhabited

/-- Operand port A (30_encoding.md R82): it carries an element (RB_PUT), a `u32` (STEER_PULSE's timestamp, DMA_WORD's
received word) or a frame (RA_REALIGN_FRAME, which uses the first F of the 32 bytes). Log entry 19. -/
structure PortA where
  elem : Nat
  word : Word
  frame : Vector Byte 32
  deriving DecidableEq, Repr, Inhabited

/-- An operation word as its issuer presents it, with its operand ports (30_encoding.md R80, R82). -/
structure IssuedOp where
  word : Word
  a : PortA
  b : Word
  deriving DecidableEq, Repr, Inhabited

/-- What an external callback does next (43_frame_exchange.md R176, R177; 46_realigner.md R226): issue an operation from
interrupt context, write word `w` of the slot just transmitted, or return. Log entry 12. -/
inductive CbItem where
  | op (o : IssuedOp)
  | fill (w : BitVec 4) (v : Word)
  | ret
  deriving DecidableEq, Repr, Inhabited

/-- One event of the schedule: which agent takes the next indivisible step, and the environment's draw for it
(60_exceptions.md R252; 10_state.md R58). `dispatch h` is the dispatch step of R250 with the source chosen; `dacReady` is
the DAC sink's acceptance of R258. Log entry 6. -/
inductive Event where
  | hw (a : HwAgent) (o : IssuedOp)
  | poll
  | isr
  | dispatch (h : Handler)
  | dacReady
  deriving DecidableEq, Repr, Inhabited

end Sys2Proof
end

