-- ==== Sys2Proof/Config.lean ====
section
/-! DEFINITION. The configuration of the block (00_scope.md R7) and the free values: what the spec leaves to the environment,
to the scheduler, or calls "any value". -/

namespace Sys2Proof

/-- The receive consumer callback (00_scope.md R7 `RX_CALLBACK`; 43_frame_exchange.md R176). -/
inductive RxCallback where
  | alignStep
  | external
  deriving DecidableEq, Repr, Inhabited

/-- `WORD_BYTE_ORDER` (20_memory.md R65). -/
inductive ByteOrder where
  | big
  | little
  deriving DecidableEq, Repr, Inhabited

/-- The parameters of 00_scope.md R7 that are not fixed widths, and the declared sides of 70_reset_and_hazards.md R281.
Parameters that reset into a register have that register's width. A run carries them in `State.cfg`; no step changes
them (log entry 1). -/
structure Params where
  /-- `RB_N`, `RB_T_W`, `RB_COUNT` and the declared producer and consumer of each ring (40_ring_buffer.md R108). -/
  rbN : Nat
  rbTW : Nat
  rbCount : Nat
  rbProducer : List Ctx
  rbConsumer : List Ctx
  /-- `NOMINAL_INTERVAL`. -/
  nominalInterval : Word
  /-- `GATE_MIN`, `GATE_MAX`. -/
  gateMin : Nat
  gateMax : Nat
  /-- `INIT_DISCARD`, a value of `ST_COUNT`. -/
  initDiscard : Word
  /-- `PERIODS`, `CAL_SETTLE`. -/
  periods : Nat
  calSettle : Nat
  /-- `FREQ_LOCK_THRESH`, `PHASE_LOSS_THRESH`. -/
  freqLockThresh : Nat
  phaseLossThresh : Nat
  /-- `SETTLE`, a value of `ST_COUNT`. -/
  settle : Word
  /-- `DAC_SHIFT` (0..19), `DAC_MAX`, `DAC_RANGE`, `DAC_CHANNEL`. -/
  dacShift : Nat
  dacMax : Int
  dacRange : Int
  dacChannel : Nat
  /-- `N_RX`, `N_TX`. -/
  nRx : Nat
  nTx : Nat
  /-- `ALIGN_CHECK_INTERVAL`, a value of `DET_CNT`. -/
  alignCheckInterval : Half
  /-- `FAS_PATTERN`, `NFAS_PATTERN`. -/
  fasPattern : BitVec 7
  nfasPattern : BitVec 2
  /-- `NOMINAL_TOP`, a value of `FT_TOP`. -/
  nominalTop : Half
  /-- `F`, `RA_COUNT` and the owner of each realigner (46_realigner.md R226). -/
  f : Nat
  raCount : Nat
  raOwner : List Ctx
  /-- `WORD_BYTE_ORDER`, `RX_CALLBACK`. -/
  wordByteOrder : ByteOrder
  rxCallback : RxCallback
  deriving DecidableEq, Repr, Inhabited

/-- The ring depth `N_d` of a direction (43_frame_exchange.md, head). -/
def Params.depth (p : Params) : Dir → Nat
  | .rx => p.nRx
  | .tx => p.nTx

/-- The configuration the machine resets with: the defaults of 00_scope.md R7; the OPEN parameters as log entry 1 names them
(DESIGN CHOICE; 95_test_vectors.md's example values where it has some). No statement rests on these numbers. -/
def Params.default : Params where
  rbN := 2
  rbTW := 8
  rbCount := 2
  rbProducer := [.poll, .isr]
  rbConsumer := [.poll, .poll]
  nominalInterval := 1000000
  gateMin := 75
  gateMax := 125
  initDiscard := 2
  periods := 4
  calSettle := 2
  freqLockThresh := 5
  phaseLossThresh := 50
  settle := 30
  dacShift := 4
  dacMax := 65535
  dacRange := 65536
  dacChannel := 0
  nRx := 4
  nTx := 4
  alignCheckInterval := 200
  fasPattern := 0b0011011
  nfasPattern := 0b01
  nominalTop := 512
  f := 32
  raCount := 2
  raOwner := [.poll, .poll]
  wordByteOrder := .big
  rxCallback := .alignStep

namespace Config

/-- `DF_WORDS`: 32-bit words per double-frame (00_scope.md R7, fixed). -/
def dfWords : Nat := 16

/-- `DAC_BITS` (00_scope.md R7; 10_state.md R39 fixes `DAC_OUT` as a u12; log entry 15). -/
def dacBits : Nat := 12

/-- `DAC_MAXVAL` = 2^12 − 1 (00_scope.md R7). -/
def dacMaxVal : Nat := 2 ^ dacBits - 1

/-- FREE VALUE (log entry 4): word `w` of slot `s` of direction `d` after reset, "any value" (10_state.md R40;
93_implementation_defined.md U2). -/
opaque slotAtReset : Dir → Nat → Nat → Word

/-- FREE VALUE (log entry 5): the `n`-th word the transmit engine sends while both its descriptors are invalid
(43_frame_exchange.md R171; 93_implementation_defined.md U3). -/
opaque idleLineWord : Nat → Word

/-- FREE VALUE (log entry 6): the `n`-th event of the schedule, where State lists none (60_exceptions.md R250, R252;
93_implementation_defined.md U12, U15). -/
opaque schedule : Nat → Event

/-- FREE VALUE (log entry 6): the operation at index `n` of the poll program, where State lists none (60_exceptions.md R257). -/
opaque pollProgram : Nat → IssuedOp

/-- FREE VALUE (log entry 12): the `n`-th item of the external callbacks, where State lists none (43_frame_exchange.md R176,
R177; 93_implementation_defined.md U28). -/
opaque callbackItem : Nat → CbItem

end Config

end Sys2Proof
end

