-- ==== Sys2Proof/WellFormed.lean ====
section
/-! DEFINITION. What the encoding alone does not check: the constraints on the configuration (00_scope.md R8) and the instance
ranges of an operation under a configuration (30_encoding.md R83). -/

namespace Sys2Proof

/-- The constraints of 00_scope.md R8, with the ranges R7 itself gives `RB_COUNT`, `RA_COUNT` and `DAC_SHIFT` (log entry 14).
Those on `CAL_SETTLE` hold by type. DESIGN CHOICE: a side list shorter than its count is admitted (log entry 21). -/
def Params.valid (p : Params) : Bool :=
  decide (1 ≤ p.rbN) &&
  decide (2 ≤ p.nRx ∧ p.nRx ≤ 127) &&
  decide (2 ≤ p.nTx ∧ p.nTx ≤ 127) &&
  decide (1 ≤ p.periods) &&
  decide (p.initDiscard ≠ 0) &&
  decide (p.settle ≠ 0) &&
  decide (p.gateMin ≤ p.gateMax) &&
  decide (1 ≤ p.f ∧ p.f ≤ 32) &&
  decide (p.alignCheckInterval ≠ 0) &&
  decide (2 ≤ p.nominalTop.toNat ∧ p.nominalTop.toNat ≤ 2 ^ 16 - 2) &&
  decide (0 ≤ p.dacMax) &&
  decide (1 ≤ p.dacRange) &&
  decide (1 ≤ p.rbCount ∧ p.rbCount ≤ 256) &&
  decide (1 ≤ p.raCount ∧ p.raCount ≤ 256) &&
  decide (p.dacShift ≤ 19)

/-- `INST` is in range under configuration `p` (30_encoding.md R83); an operation that fails it is illegal (R87). -/
def Instr.wellFormed (p : Params) : Instr → Bool
  | .rbPut i => decide (i.toNat < p.rbCount)
  | .rbGet i => decide (i.toNat < p.rbCount)
  | .raSetAlignment i _ => decide (i.toNat < p.raCount)
  | .raRealignFrame i => decide (i.toNat < p.raCount)
  | .capCntTick => true
  | .capEdge _ => true
  | .capIsr => true
  | .capPoll => true
  | .steerPulse => true
  | .xchStart => true
  | .dmaWord _ => true
  | .xchIsr _ => true
  | .alignStep => true
  | .phaseRequest _ => true
  | .ftTick => true
  | .ftIsr => true
  | .statsSnapshot => true

end Sys2Proof
end

