-- ==== Sys2Proof/Decode.lean ====
section
/-! DEFINITION. The decoder and the encoder of operation words (30_encoding.md). -/

namespace Sys2Proof

/-- Why a word spells no operation (30_encoding.md R87, R88). -/
inductive DecodeError where
  /-- an `OPC` not in the opcode map (R87) -/
  | unassigned (opc : Byte)
  /-- an `OPC` of 0xF0..0xFF, reserved for harnesses (R88) -/
  | reserved (opc : Byte)
  /-- a nonzero bit in an `INST` field listed as 0 (R87) -/
  | instNotZero (opc : Byte)
  /-- a nonzero bit in an `IMM` field listed as 0 (R87) -/
  | immNotZero (opc : Byte)
  /-- `dir` of PHASE_REQUEST is 0 or 3 (R87) -/
  | badDir
  deriving DecidableEq, Repr

/-- `OPC`, bits 31:24 (30_encoding.md R81). -/
def opcField (w : Word) : Byte := w.extractLsb' 24 8

/-- `INST`, bits 23:16 (30_encoding.md R81). -/
def instField (w : Word) : Byte := w.extractLsb' 16 8

/-- `IMM`, bits 15:0 (30_encoding.md R81). -/
def immField (w : Word) : Half := w.extractLsb' 0 16

/-- An operation whose `IMM` must be 0. -/
def decodeImm0 (w : Word) (i : Instr) : Except DecodeError Instr :=
  if immField w = 0 then .ok i else .error (.immNotZero (opcField w))

/-- An operation whose `INST` and `IMM` must be 0. -/
def decodeBare (w : Word) (i : Instr) : Except DecodeError Instr :=
  if instField w = 0 then decodeImm0 w i else .error (.instNotZero (opcField w))

/-- An operation with a one-bit selector in `INST[0]`; `INST[7:1]` and `IMM` must be 0 (30_encoding.md R83). -/
def decodeSel (w : Word) (i0 i1 : Instr) : Except DecodeError Instr :=
  if (instField w).extractLsb' 1 7 = 0 then
    decodeImm0 w (if instField w = 0 then i0 else i1)
  else .error (.instNotZero (opcField w))

/-- PHASE_REQUEST: `IMM[1:0]` is `dir`, `IMM[15:2]` and `INST` must be 0 (30_encoding.md R84). -/
def decodePhaseRequest (w : Word) : Except DecodeError Instr :=
  if instField w = 0 then
    if (immField w).extractLsb' 2 14 = 0 then
      if immField w = 1 then .ok (.phaseRequest .increase)
      else if immField w = 2 then .ok (.phaseRequest .decrease)
      else .error .badDir
    else .error (.immNotZero (opcField w))
  else .error (.instNotZero (opcField w))

/-- The operation a word spells: the opcode map of 30_encoding.md R85. -/
def decode (w : Word) : Except DecodeError Instr :=
  match (opcField w).toNat with
  | 0x01 => decodeImm0 w (.rbPut (instField w))
  | 0x02 => decodeImm0 w (.rbGet (instField w))
  | 0x10 => decodeBare w .capCntTick
  | 0x11 => decodeSel w (.capEdge .rising) (.capEdge .falling)
  | 0x12 => decodeBare w .capIsr
  | 0x13 => decodeBare w .capPoll
  | 0x20 => decodeBare w .steerPulse
  | 0x30 => decodeBare w .xchStart
  | 0x31 => decodeSel w (.dmaWord .rx) (.dmaWord .tx)
  | 0x32 => decodeSel w (.xchIsr .rx) (.xchIsr .tx)
  | 0x40 => decodeBare w .alignStep
  | 0x50 => decodePhaseRequest w
  | 0x51 => decodeBare w .ftTick
  | 0x52 => decodeBare w .ftIsr
  | 0x60 => .ok (.raSetAlignment (instField w) (immField w))
  | 0x61 => decodeImm0 w (.raRealignFrame (instField w))
  | 0x70 => decodeBare w .statsSnapshot
  | _ => if 0xF0 ≤ (opcField w).toNat then .error (.reserved (opcField w)) else .error (.unassigned (opcField w))

/-- The instruction the decoder reads from a table word of `nbits` bits (bits above `nbits` are 0). -/
def decodeTableWord (nbits w : Nat) : Option Instr :=
  (decode (BitVec.ofNat 32 (w % 2 ^ nbits))).toOption

/-- `INST[0]` of a direction (30_encoding.md R83). -/
def Dir.code : Dir → Byte
  | .rx => 0
  | .tx => 1

/-- `INST[0]` of an edge kind (30_encoding.md R83). -/
def EdgeKind.code : EdgeKind → Byte
  | .rising => 0
  | .falling => 1

/-- `IMM[1:0]` of a nudge, also its encoding in PA_PEND (30_encoding.md R84; 10_state.md R48). -/
def Nudge.code : Nudge → BitVec 2
  | .increase => 1
  | .decrease => 2

/-- An operation word from its fields: `OPC ++ INST ++ IMM` (30_encoding.md R81). -/
def opWord (opc inst : Byte) (imm : Half) : Word := (opc ++ inst ++ imm : BitVec (8 + 8 + 16))

/-- The word of an operation (30_encoding.md R85). -/
def encode : Instr → Word
  | .rbPut i => opWord 0x01 i 0
  | .rbGet i => opWord 0x02 i 0
  | .capCntTick => opWord 0x10 0 0
  | .capEdge kind => opWord 0x11 kind.code 0
  | .capIsr => opWord 0x12 0 0
  | .capPoll => opWord 0x13 0 0
  | .steerPulse => opWord 0x20 0 0
  | .xchStart => opWord 0x30 0 0
  | .dmaWord d => opWord 0x31 d.code 0
  | .xchIsr d => opWord 0x32 d.code 0
  | .alignStep => opWord 0x40 0 0
  | .phaseRequest dir => opWord 0x50 0 (dir.code.setWidth 16)
  | .ftTick => opWord 0x51 0 0
  | .ftIsr => opWord 0x52 0 0
  | .raSetAlignment i nBits => opWord 0x60 i nBits
  | .raRealignFrame i => opWord 0x61 i 0
  | .statsSnapshot => opWord 0x70 0 0

end Sys2Proof
end

