-- ==== Sys2Proof/Machine/State.lean ====
section
/-! DEFINITION. The state of the block (10_state.md), the reasons a run stops, and the state right after reset
(70_reset_and_hazards.md R270). -/

namespace Sys2Proof.Machine

/-- The model's faults (60_exceptions.md R246; 93_implementation_defined.md U5, U6, U7, U11). An operation that meets one adds
it to `State.faults`; every later step ends in it (log entry 8). All are safe: the machine stops where a conforming run never
comes. -/
inductive Fault where
  /-- A slot or word index out of range in MemRead or MemWrite (20_memory.md R61), and, by DESIGN CHOICE, a missing unit or an overlap
  byte that a realigner does not have (log entry 23); raised by the slot, ring and realigner primitives. Safe. -/
  | slotIndex
  /-- ST_STATE holds 5..7 (42_steering.md R140); raised by STEER_PULSE. Safe. -/
  | badSteeringState
  /-- A read of an element that holds no value yet (10_state.md R59; U5); raised by the operation that reads it. Safe. -/
  | unwrittenRead
  /-- A parameter violates 00_scope.md R8, or a range of R7 (log entry 14); raised by `step` before any agent steps. Safe. -/
  | badConfig
  /-- PA_PEND holds 3 (10_state.md R48; U7 `stuck`); raised by FT_ISR and PHASE_REQUEST. Safe. -/
  | mailboxStuck
  deriving DecidableEq, Repr

/-- Why an operation has no meaning in the model. No meaning answers with it: the spec's own refusals (60_exceptions.md R247)
are next states with `State.refused` set (log entry 9). -/
inductive Refusal where
  /-- Raised by an arm of `exec` whose operation is not modelled; there is none. Safe. -/
  | notModelled (mnemonic : String)
  deriving DecidableEq, Repr

/-- A register whose reset value the spec gives as "no value" (10_state.md, head): its contents, and whether anything has
written it. Its contents are read only through `Reg.read` (log entry 2). -/
structure Reg (α : Type) where
  val : α
  written : Bool
  deriving DecidableEq, Repr, Inhabited

/-- A written register. -/
def Reg.of {α : Type} (v : α) : Reg α := { val := v, written := true }

/-- A register that holds no value yet; `v` is the DESIGN CHOICE under the mark (log entry 2). -/
def Reg.blank {α : Type} (v : α) : Reg α := { val := v, written := false }

/-- One ring buffer: RB_BUF, RB_WR, RB_RD (10_state.md R22). -/
structure Ring where
  buf : List (Reg Nat)
  wr : Nat
  rd : Nat
  deriving DecidableEq, Repr, Inhabited

/-- TimestampCapture (10_state.md R23–R28): CNT, CAP_SR, LATCH_R, LATCH_F, CAP_IE, OVC, TS_R, TS_F, CAP_NEW. -/
structure Capture where
  cnt : Half
  sr : BitVec 3
  latchR : Reg Half
  latchF : Reg Half
  ie : BitVec 3
  ovc : Half
  tsR : Reg Word
  tsF : Reg Word
  fresh : BitVec 2
  deriving DecidableEq, Repr, Inhabited

/-- OscillatorSteering (10_state.md R30–R39). The `i32` registers hold their bit pattern. -/
structure Steering where
  state : BitVec 3
  count : Word
  dacValue : Reg Word
  dacCenter : Reg Word
  slope : Reg Word
  minOffset : Reg Word
  maxOffset : Reg Word
  lastRef : Word
  lastTick : Word
  flags : BitVec 2
  dacOut : Reg (BitVec 12)
  deriving DecidableEq, Repr, Inhabited

/-- The current DMA descriptor (10_state.md R43). -/
structure DmaCur where
  valid : Bool
  slot : Byte
  pos : Byte
  deriving DecidableEq, Repr, Inhabited

/-- The next DMA descriptor (10_state.md R43). -/
structure DmaNxt where
  valid : Bool
  slot : Byte
  deriving DecidableEq, Repr, Inhabited

/-- The slot memory of one direction (10_state.md R40): slots of 16 words, read and written through
`Memory.readWord` and `Memory.writeWord` only. -/
abbrev Memory := List (List Word)

/-- The shape of a slot memory of depth `n`: `n` slots of 16 words. Memory is dense, so this is its canonical form. -/
def Memory.wf (n : Nat) (m : Memory) : Bool :=
  decide (m.length = n) && m.all (fun slot => decide (slot.length = Config.dfWords))

/-- One direction of SerialFrameExchange (10_state.md R40–R46): RXS or TXS, XCH_CUR, XCH_LAST, DMA_CUR, DMA_NXT, XCH_SR,
XCH_IE, XCH_ERRCNT. -/
structure Exchange where
  slots : Memory
  cur : Byte
  last : Byte
  dmaCur : DmaCur
  dmaNxt : DmaNxt
  sr : BitVec 2
  ie : Bool
  errcnt : Word
  deriving DecidableEq, Repr, Inhabited

/-- FrameClockPhaseAdjuster and frame timer (10_state.md R48–R52): PA_PEND, FT_ARMED, FT_TOP, FT_CNT, FT_SR.MATCH. -/
structure FrameTimer where
  pend : BitVec 2
  armed : Bool
  top : Half
  cnt : Half
  matched : Bool
  deriving DecidableEq, Repr, Inhabited

/-- One realigner (10_state.md R53): RA_OFFSET, RA_CARRY, RA_REFRAME. -/
structure Realigner where
  offset : Byte
  carry : Byte
  reframe : List Byte
  deriving DecidableEq, Repr, Inhabited

/-- The statistics counters with storage of their own (10_state.md R55); `rx_overrun` and `tx_underrun` are `XCH_ERRCNT`. -/
structure Stats where
  desync : Word
  phaseBusy : Word
  ppsLoss : Word
  calFail : Word
  deriving DecidableEq, Repr, Inhabited

/-- Where a context stands inside RB_PUT or RB_GET on ring `i`, with the locals it carries to the next micro-step
(40_ring_buffer.md R101, R103; 60_exceptions.md R251). -/
inductive RbStage where
  /-- no micro-step taken yet -/
  | start
  /-- RB_PUT before μ2 -/
  | putStore (i w nw : Nat)
  /-- RB_PUT before μ3 -/
  | putPublish (i nw : Nat)
  /-- RB_GET before μ2 -/
  | getRead (i r : Nat)
  /-- RB_GET before μ3 -/
  | getPublish (i r v : Nat)
  deriving DecidableEq, Repr, Inhabited

/-- Where the callback of XCH_ISR μ6 stands (43_frame_exchange.md R176, R177; 44_alignment.md R190). Log entry 11. -/
inductive Callback where
  /-- no callback runs -/
  | none
  /-- ALIGN_STEP before its first access -/
  | alignEntry
  /-- ALIGN_STEP before the read of word 0 of `slot` -/
  | alignEven (slot : Nat)
  /-- ALIGN_STEP before the read of word 8 of `slot`, word 0 being `w0` -/
  | alignOdd (slot : Nat) (w0 : Word)
  /-- ALIGN_STEP before its PHASE_REQUEST -/
  | alignRequest
  /-- ALIGN_STEP after its PHASE_REQUEST, which answered `Busy` or not -/
  | alignFinish (busy : Bool)
  /-- an external callback, with its place inside RB_PUT or RB_GET -/
  | external (stage : RbStage)
  deriving DecidableEq, Repr, Inhabited

/-- ISR_ACTIVE = Some(handler, micro-step) (10_state.md R56) with the locals of the active handler (R29;
43_frame_exchange.md R174), which live only while it is active. -/
structure IsrCtx where
  handler : Handler
  mu : Nat
  hSr : BitVec 3
  hTv : Half
  hRa : Half
  hRb : Half
  hX : BitVec 2
  done : Byte
  cb : Callback
  deriving DecidableEq, Repr, Inhabited

/-- The value of a STATS_SNAPSHOT (60_exceptions.md R262). -/
structure Snapshot where
  rxOverrun : Word
  txUnderrun : Word
  desync : Word
  phaseBusy : Word
  ppsLoss : Word
  calFail : Word
  stState : BitVec 3
  stFlags : BitVec 2
  paPend : BitVec 2
  deriving DecidableEq, Repr, Inhabited

/-- The value an `Ok` carries on the result port (30_encoding.md R82). -/
inductive Value where
  | unit
  /-- RB_GET's element (40_ring_buffer.md R103) -/
  | elem (v : Nat)
  /-- CAP_POLL's CaptureEvent (41_capture.md R126) -/
  | event (rising falling : Option Word)
  /-- RA_REALIGN_FRAME's output frame (46_realigner.md R221) -/
  | frame (out : List Byte)
  /-- STATS_SNAPSHOT's snapshot (60_exceptions.md R262) -/
  | snapshot (snap : Snapshot)
  deriving DecidableEq, Repr, Inhabited

/-- The results of 60_exceptions.md R240. -/
inductive Result where
  | ok (v : Value)
  | full
  | empty
  | busy
  | desync
  | lossOfPPS
  | ringOverrun
  | ringUnderrun
  | calibrationPreconditionViolated
  deriving DecidableEq, Repr, Inhabited

/-- The result codes of 60_exceptions.md R240. -/
def Result.code : Result → Nat
  | .ok _ => 0
  | .full => 1
  | .empty => 2
  | .busy => 3
  | .desync => 4
  | .lossOfPPS => 5
  | .ringOverrun => 6
  | .ringUnderrun => 7
  | .calibrationPreconditionViolated => 8

/-- What the environment observes. Log entry 13. -/
inductive Obs where
  /-- a result on the result port of the issuing agent (60_exceptions.md R240) -/
  | result (a : Agent) (r : Result)
  /-- the trace result of a handler or callback (60_exceptions.md R240) -/
  | trace (i : Instr) (r : Result)
  /-- `line_out(v)` (43_frame_exchange.md R171) -/
  | lineOut (v : Word)
  /-- `frame_sync()` (45_phase_adjust.md R202, R209) -/
  | frameSync
  /-- `DAC.set(channel, v)` (42_steering.md R158, R159) -/
  | dacSet (channel : Nat) (v : BitVec 12)
  deriving DecidableEq, Repr, Inhabited

/-- The DAC hold: the result a STEER_PULSE withholds, and whether the sink has accepted its word (60_exceptions.md R258;
log entry 22). -/
structure DacHold where
  result : Result
  accepted : Bool
  deriving DecidableEq, Repr, Inhabited

/-- The control point of POLL: the boot step done or not (70_reset_and_hazards.md R280), the words still to issue (the next
one first), the index of the next operation (10_state.md R20), the place inside RB_PUT or RB_GET (60_exceptions.md R251), and
the DAC hold (R258). -/
structure Poll where
  booted : Bool
  prog : List IssuedOp
  index : Nat
  stage : RbStage
  hold : Option DacHold
  deriving DecidableEq, Repr, Inhabited

/-- The state of the block: 10_state.md, unit by unit; then the configuration and the model's own fields (INVENTORY.md). -/
structure State where
  cfg : Params
  rings : List Ring
  cap : Capture
  steer : Steering
  rx : Exchange
  tx : Exchange
  detCnt : Half
  ft : FrameTimer
  realigners : List Realigner
  primask : Bool
  stats : Stats
  isr : Option IsrCtx
  faults : List Fault
  refused : Bool
  poll : Poll
  portA : PortA
  portB : Word
  agent : Agent
  obs : List Obs
  sched : List Event
  evIdx : Nat
  cbItems : List CbItem
  cbIdx : Nat
  freeIdx : Nat
  deriving DecidableEq, Repr, Inhabited

/-- XCH_LAST's `NONE` (10_state.md R42). -/
def lastNone : Byte := 0xFF

/-- A ring buffer at reset (10_state.md R22): empty, its slots holding no value. -/
def Ring.reset (p : Params) : Ring :=
  { buf := List.replicate (p.rbN + 1) (Reg.blank 0), wr := 0, rd := 0 }

/-- TimestampCapture at reset (10_state.md R23–R28). CNT is "any value": 0, DESIGN CHOICE, log entry 3. -/
def Capture.reset : Capture :=
  { cnt := 0, sr := 0, latchR := Reg.blank 0, latchF := Reg.blank 0, ie := 0, ovc := 0
    tsR := Reg.blank 0, tsF := Reg.blank 0, fresh := 0 }

/-- OscillatorSteering at reset (10_state.md R30–R39). -/
def Steering.reset (p : Params) : Steering :=
  { state := 0, count := p.initDiscard, dacValue := Reg.blank 0, dacCenter := Reg.blank 0, slope := Reg.blank 0
    minOffset := Reg.blank 0, maxOffset := Reg.blank 0, lastRef := 0, lastTick := 0, flags := 0, dacOut := Reg.blank 0 }

/-- The slot memory of direction `d` at reset: "any value" (10_state.md R40), a free value per word (log entry 4). -/
def Memory.reset (p : Params) (d : Dir) : Memory :=
  (List.range (p.depth d)).map (fun s => (List.range Config.dfWords).map (fun w => Config.slotAtReset d s w))

/-- One direction of the frame exchange at reset (10_state.md R40–R46). -/
def Exchange.reset (p : Params) (d : Dir) : Exchange :=
  { slots := Memory.reset p d, cur := 0, last := lastNone
    dmaCur := { valid := false, slot := 0, pos := 0 }, dmaNxt := { valid := false, slot := 0 }
    sr := 0, ie := false, errcnt := 0 }

/-- Phase adjuster and frame timer at reset (10_state.md R48–R52). -/
def FrameTimer.reset (p : Params) : FrameTimer :=
  { pend := 0, armed := false, top := p.nominalTop, cnt := 0, matched := false }

/-- A realigner at reset, as after `set_alignment(0)` (10_state.md R53). -/
def Realigner.reset (p : Params) : Realigner :=
  { offset := 0, carry := 0, reframe := List.replicate p.f 0 }

/-- POLL at reset: the boot step is its first step (70_reset_and_hazards.md R271, R280). -/
def Poll.reset : Poll :=
  { booted := false, prog := [], index := 0, stage := .start, hold := none }

/-- The block right after reset under configuration `p` (70_reset_and_hazards.md R270, R273). -/
def State.resetWith (p : Params) : State :=
  { cfg := p
    rings := List.replicate p.rbCount (Ring.reset p)
    cap := Capture.reset
    steer := Steering.reset p
    rx := Exchange.reset p .rx
    tx := Exchange.reset p .tx
    detCnt := p.alignCheckInterval
    ft := FrameTimer.reset p
    realigners := List.replicate p.raCount (Realigner.reset p)
    primask := false
    stats := { desync := 0, phaseBusy := 0, ppsLoss := 0, calFail := 0 }
    isr := none
    faults := []
    refused := false
    poll := Poll.reset
    portA := { elem := 0, word := 0, frame := Vector.replicate 32 0 }
    portB := 0
    agent := .poll
    obs := []
    sched := []
    evIdx := 0
    cbItems := []
    cbIdx := 0
    freeIdx := 0 }

/-- The machine right after reset, in the configuration of log entry 1. -/
def State.reset : State := State.resetWith Params.default

end Sys2Proof.Machine
end

