-- ==== Sys2Proof/Machine/Flags.lean ====
section
/-! DEFINITION. The flag registers: CAP_SR, CAP_NEW, ST_FLAGS, XCH_SR (10_state.md R24, R28, R38, R44), and the read-and-clear of
20_memory.md R69. -/

namespace Sys2Proof.Machine

/-- Bit 0 of CAP_SR and CAP_IE: counter overflow (10_state.md R24, R26). -/
def flagOvf : BitVec 3 := 0b001

/-- Bit 1 of CAP_SR and CAP_IE: rising latch loaded. -/
def flagLdr : BitVec 3 := 0b010

/-- Bit 2 of CAP_SR and CAP_IE: falling latch loaded. -/
def flagLdf : BitVec 3 := 0b100

/-- OVF of a CAP_SR value. -/
def isOvf (sr : BitVec 3) : Bool := sr.getLsbD 0

/-- LDR of a CAP_SR value. -/
def isLdr (sr : BitVec 3) : Bool := sr.getLsbD 1

/-- LDF of a CAP_SR value. -/
def isLdf (sr : BitVec 3) : Bool := sr.getLsbD 2

/-- Bit 0 of CAP_NEW (10_state.md R28). -/
def flagNewR : BitVec 2 := 0b01

/-- Bit 1 of CAP_NEW. -/
def flagNewF : BitVec 2 := 0b10

/-- NEW_R of a CAP_NEW value. -/
def isNewR (n : BitVec 2) : Bool := n.getLsbD 0

/-- NEW_F of a CAP_NEW value. -/
def isNewF (n : BitVec 2) : Bool := n.getLsbD 1

/-- Bit 0 of ST_FLAGS (10_state.md R38). -/
def flagHasCal : BitVec 2 := 0b01

/-- Bit 1 of ST_FLAGS. -/
def flagCalErr : BitVec 2 := 0b10

/-- HAS_CAL of an ST_FLAGS value. -/
def isHasCal (f : BitVec 2) : Bool := f.getLsbD 0

/-- CAL_ERR of an ST_FLAGS value. -/
def isCalErr (f : BitVec 2) : Bool := f.getLsbD 1

/-- Bit 0 of XCH_SR: current descriptor complete (10_state.md R44). -/
def flagEnd : BitVec 2 := 0b01

/-- Bit 1 of XCH_SR: both descriptors exhausted. -/
def flagBuff : BitVec 2 := 0b10

/-- END of an XCH_SR value. -/
def isEnd (sr : BitVec 2) : Bool := sr.getLsbD 0

/-- BUFF of an XCH_SR value. -/
def isBuff (sr : BitVec 2) : Bool := sr.getLsbD 1

/-- What a flag register holds after a read-and-clear that returned `read` (20_memory.md R69: exactly the flags the read
returned as 1 are cleared). -/
def clearRead {n : Nat} (flags read : BitVec n) : BitVec n := flags &&& ~~~read

end Sys2Proof.Machine
end

