-- ==== Sys2Proof/Machine/Operands.lean ====
section
/-! DEFINITION. The operand ports as each operation reads them (30_encoding.md R82), the instance field (R83), and the 32-bit
truncation and signed reading of 00_scope.md R10. -/

namespace Sys2Proof.Machine

/-- `trunc_32` of an exact integer (00_scope.md R10). -/
def trunc32 (v : Int) : Word := BitVec.ofInt 32 v

/-- `signed_32` of a bit pattern (00_scope.md R10). -/
def signed32 (w : Word) : Int := w.toInt

/-- `clamp(v, lo, hi)` (00_scope.md R10). -/
def clampInt (v lo hi : Int) : Int := min (max v lo) hi

/-- RB_PUT's element on port A, `RB_T_W` bits (30_encoding.md R82; log entry 19). -/
def State.elemOperand (s : State) : Nat := s.portA.elem % 2 ^ s.cfg.rbTW

/-- STEER_PULSE's timestamp on port A (30_encoding.md R82). -/
def State.tsOperand (s : State) : Word := s.portA.word

/-- STEER_PULSE's wall-clock tick on port B (30_encoding.md R82). -/
def State.tickOperand (s : State) : Word := s.portB

/-- DMA_WORD's received word on port A (30_encoding.md R82). -/
def State.wordOperand (s : State) : Word := s.portA.word

/-- RA_REALIGN_FRAME's input frame on port A, the first `F` bytes (30_encoding.md R82; log entry 19). -/
def State.frameOperand (s : State) : List Byte := s.portA.frame.toList.take s.cfg.f

end Sys2Proof.Machine
end

