-- ==== Sys2Proof/Machine/Ops.lean ====
section
/-! DEFINITION. The operations every meaning is written over: reads of registers that may hold no value, the slot and ring
memory primitives (20_memory.md R61), results and refusals (60_exceptions.md R240, R247), model faults (R246), critical
sections (20_memory.md R72), and interrupt entry and return (60_exceptions.md R248–R251). -/

namespace Sys2Proof.Machine

/-! ## Faults -/

/-- `fault <Reason>`: the reason joins FAULTS, nothing else changes (60_exceptions.md R246; log entry 8). -/
def State.mark (s : State) (r : Fault) : State :=
  { s with faults := if r ∈ s.faults then s.faults else r :: s.faults }

/-- The outcome of an operation at `s` that may meet a model fault. -/
def settle (s : State) : Except Fault State → Host.Outcome State Fault Refusal
  | .ok t => .next t
  | .error r => .next (s.mark r)

/-! ## Registers and memories -/

/-- The value of a register, or UnwrittenRead where it holds none (60_exceptions.md R246). -/
def Reg.read {α : Type} (r : Reg α) : Except Fault α :=
  if r.written then .ok r.val else .error .unwrittenRead

/-- `MemRead(RXS|TXS, (s, w), 32)` of a slot memory of depth `n` (20_memory.md R61). DESIGN CHOICE: SlotIndex where the state has no
such slot or word although the index is in range (log entry 23). -/
def Memory.readWord (n : Nat) (m : Memory) (s w : Nat) : Except Fault Word :=
  if s < n ∧ w < Config.dfWords then
    match m[s]?.bind (fun slot => slot[w]?) with
    | some v => .ok v
    | none => .error .slotIndex
  else .error .slotIndex

/-- `MemWrite(RXS|TXS, (s, w), 32, v)` of a slot memory of depth `n` (20_memory.md R61); as in readWord, log entry 23. -/
def Memory.writeWord (n : Nat) (m : Memory) (s w : Nat) (v : Word) : Except Fault Memory :=
  if s < n ∧ w < Config.dfWords then
    match m[s]? with
    | some slot => if w < slot.length then .ok (m.set s (slot.set w v)) else .error .slotIndex
    | none => .error .slotIndex
  else .error .slotIndex

/-- Byte `k` of a word under a byte order (20_memory.md R65: `BIG` puts bits 31−8k..24−8k at byte k, `LITTLE` bits
8k+7..8k). -/
def wordByte (o : ByteOrder) (v : Word) (k : Nat) : Byte :=
  match o with
  | .big => v.extractLsb' (24 - 8 * k) 8
  | .little => v.extractLsb' (8 * k) 8

/-- Byte `j` of slot `s`, byte 4w+k being byte k of word w (20_memory.md R65, parameter `WORD_BYTE_ORDER`); a view of the
state, read by no operation. -/
def Memory.readByte (o : ByteOrder) (n : Nat) (m : Memory) (s j : Nat) : Except Fault Byte :=
  (Memory.readWord n m s (j / 4)).map (fun v => wordByte o v (j % 4))

/-- `MemRead(RB_BUF[i], j, RB_T_W)` (20_memory.md R61). The range is the slots the ring has, RB_N + 1 in every ring of the spec
(log entry 23). -/
def Ring.readSlot (r : Ring) (j : Nat) : Except Fault Nat :=
  match r.buf[j]? with
  | some c => c.read
  | none => .error .slotIndex

/-- `MemWrite(RB_BUF[i], j, RB_T_W, v)` (20_memory.md R61); the range as in readSlot. -/
def Ring.writeSlot (r : Ring) (j v : Nat) : Except Fault Ring :=
  if j < r.buf.length then .ok { r with buf := r.buf.set j (Reg.of v) } else .error .slotIndex

/-- Element `i` of a list of units. DESIGN CHOICE: SlotIndex where the state has no such unit (log entry 23). -/
def unitAt {α : Type} (l : List α) (i : Nat) : Except Fault α :=
  match l[i]? with
  | some a => .ok a
  | none => .error .slotIndex

/-- One direction of the frame exchange. -/
def State.xch (s : State) : Dir → Exchange
  | .rx => s.rx
  | .tx => s.tx

/-- Replace one direction of the frame exchange. -/
def State.setXch (s : State) (d : Dir) (e : Exchange) : State :=
  match d with
  | .rx => { s with rx := e }
  | .tx => { s with tx := e }

/-- Replace ring `i`. -/
def State.setRing (s : State) (i : Nat) (r : Ring) : State :=
  { s with rings := s.rings.set i r }

/-- Replace realigner `i`. -/
def State.setRealigner (s : State) (i : Nat) (r : Realigner) : State :=
  { s with realigners := s.realigners.set i r }

/-! ## Observations, results, refusals -/

/-- The environment observes `o`. -/
def State.observe (s : State) (o : Obs) : State :=
  { s with obs := o :: s.obs }

/-- The place of the issuing context inside RB_PUT or RB_GET (60_exceptions.md R251); `start` for an agent that has none. -/
def State.stage (s : State) : RbStage :=
  match s.agent with
  | .poll => s.poll.stage
  | .isr =>
    match s.isr with
    | some c =>
      match c.cb with
      | .external st => st
      | _ => .start
    | none => .start
  | .hw _ => .start

/-- The issuing context goes to `st` inside its RB_PUT or RB_GET. -/
def State.setStage (s : State) (st : RbStage) : State :=
  match s.agent with
  | .poll => { s with poll := { s.poll with stage := st } }
  | .isr =>
    match s.isr with
    | some c =>
      match c.cb with
      | .external _ => { s with isr := some { c with cb := .external st } }
      | _ => s
    | none => s
  | .hw _ => s

/-- Is the interrupt context inside an external callback (43_frame_exchange.md R176, R177)? -/
def State.inExternal (s : State) : Bool :=
  match s.isr with
  | some c =>
    match c.cb with
    | .external _ => true
    | _ => false
  | none => false

/-- Is the interrupt context inside an external receive callback (43_frame_exchange.md R176)? -/
def State.inReceive (s : State) : Bool :=
  match s.isr with
  | some c => decide (c.handler = .xchIsr .rx) && s.inExternal
  | none => false

/-- The issuing context goes to its next operation: POLL's index advances by 1 (10_state.md R20), an external callback passes
to its next item; a hardware agent and a handler's own steps have no list to advance in. -/
def State.advance (s : State) : State :=
  match s.agent with
  | .poll =>
    { s with poll := { s.poll with prog := s.poll.prog.tail, index := s.poll.index + 1, stage := .start } }
  | .isr =>
    if s.inExternal then
      { s.setStage .start with cbItems := s.cbItems.tail, cbIdx := s.cbIdx + 1 }
    else s
  | .hw _ => s

/-- The operation ends with result `r` on its result port and its context goes on (60_exceptions.md R240, R241). -/
def State.complete (s : State) (r : Result) : State :=
  (s.observe (.result s.agent r)).advance

/-- A refusal: REFUSED <- 1, no other effect on the block, no result, the issuing agent continues with its next step
(60_exceptions.md R247; log entry 9). -/
def State.refuse (s : State) : State :=
  { s with refused := true }.advance

/-- May the issuing agent act for the declared `side` of an instance, a ring's producer or consumer (40_ring_buffer.md R108) or a
realigner's owner (46_realigner.md R226)? The interrupt context does so from an external receive callback only (43_frame_exchange.md
R176): the transmit callback writes nothing but its slot (R177; log entry 12). DESIGN CHOICE: nobody acts for a side that is not
declared, `none` (log entry 21). -/
def State.actsFor (s : State) (side : Option Ctx) : Bool :=
  match s.agent with
  | .poll => decide (side = some .poll)
  | .isr => decide (side = some .isr) && s.inReceive
  | .hw _ => false

/-- An operation only agent `a` may issue; from another agent it is refused (30_encoding.md R89). -/
def byAgent (a : Agent) (f : State → Except Fault State) (s : State) : Host.Outcome State Fault Refusal :=
  if s.agent = a then settle s (f s) else .next s.refuse

/-- An operation only the declared `side` of its instance may issue (40_ring_buffer.md R108; 46_realigner.md R226). -/
def bySide (side : Option Ctx) (f : State → Except Fault State) (s : State) : Host.Outcome State Fault Refusal :=
  if s.actsFor side then settle s (f s) else .next s.refuse

/-! ## Critical sections -/

/-- One indivisible step with PRIMASK = 1 for its duration, 0 after (20_memory.md R72; 10_state.md R54). -/
def critical (f : State → Except Fault State) (s : State) : Except Fault State :=
  (f { s with primask := true }).map (fun t => { t with primask := false })

/-! ## Interrupt entry and return -/

/-- Is the source of handler `h` pending (60_exceptions.md R248)? -/
def State.pending (s : State) : Handler → Bool
  | .capIsr => decide (s.cap.sr &&& s.cap.ie ≠ 0)
  | .xchIsr d => (s.xch d).ie && decide ((s.xch d).sr ≠ 0)
  | .ftIsr => s.ft.armed && s.ft.matched

/-- The handler's context at its entry: micro-step 1 (60_exceptions.md R250), its locals not yet read. -/
def IsrCtx.enter (h : Handler) : IsrCtx :=
  { handler := h, mu := 1, hSr := 0, hTv := 0, hRa := 0, hRb := 0, hX := 0, done := 0, cb := .none }

/-- May the dispatch step that chooses `h` be taken (60_exceptions.md R250)? -/
def State.mayDispatch (s : State) (h : Handler) : Bool :=
  s.isr.isNone && !s.primask && s.pending h

/-- Interrupt entry: `ISR_ACTIVE <- Some(h, 1)`; it saves nothing and changes no mask (60_exceptions.md R250, R251). -/
def State.enterHandler (s : State) (h : Handler) : State :=
  { s with isr := some (IsrCtx.enter h) }

/-- Interrupt return after the last micro-step: `ISR_ACTIVE <- None`, nothing is restored (60_exceptions.md R251); the handler
reports its trace result (R240). -/
def State.leaveHandler (s : State) (i : Instr) (r : Result) : State :=
  { s with isr := none }.observe (.trace i r)

/-- The handler context moves on to `c`. -/
def State.setIsr (s : State) (c : IsrCtx) : State :=
  { s with isr := some c }

/-- The next micro-step of handler `h`, where the interrupt context is running `h` itself and no callback of it; a handler's
word elsewhere is refused (30_encoding.md R86, R89; 60_exceptions.md R252 (3)). -/
def byHandler (h : Handler) (f : IsrCtx → State → Except Fault State) (s : State) : Host.Outcome State Fault Refusal :=
  match s.agent, s.isr with
  | .isr, some c => if c.handler = h ∧ c.cb = .none then settle s (f c s) else .next s.refuse
  | _, _ => .next s.refuse

/-- The trace result of XCH_ISR(d) whose μ1 read `h` (43_frame_exchange.md R174). -/
def exchangeResult (d : Dir) (h : BitVec 2) : Result :=
  if isBuff h then
    match d with
    | .rx => .ringOverrun
    | .tx => .ringUnderrun
  else .ok .unit

/-- The callback of XCH_ISR μ6 has returned: the handler ends (43_frame_exchange.md R174). -/
def State.leaveExchange (s : State) (c : IsrCtx) : State :=
  match c.handler with
  | .xchIsr d => s.leaveHandler (.xchIsr d) (exchangeResult d c.hX)
  | .capIsr => s.leaveHandler .capIsr (.ok .unit)
  | .ftIsr => s.leaveHandler .ftIsr (.ok .unit)

end Sys2Proof.Machine
end

