-- ==== Sys2Proof/Machine/Context.lean ====
section
/-! DEFINITION. The agents' control points: which event comes next, which operation word (if any) the scheduled agent presents,
and the steps that have no operation word: boot, dispatch, the DAC sink's acceptance, and an external callback's own actions
(60_exceptions.md R250–R252, R258; 70_reset_and_hazards.md R280; 43_frame_exchange.md R176, R177). -/

namespace Sys2Proof.Machine

/-- The next event of the schedule: the first one State lists, else a free value (log entry 6). -/
def State.nextEvent (s : State) : Event :=
  match s.sched with
  | e :: _ => e
  | [] => Config.schedule s.evIdx

/-- The next event is taken. -/
def State.takeEvent (s : State) : State :=
  { s with sched := s.sched.tail, evIdx := s.evIdx + 1 }

/-- POLL's next operation: the first one State lists, else a free value (log entry 6). -/
def State.nextPollOp (s : State) : IssuedOp :=
  match s.poll.prog with
  | o :: _ => o
  | [] => Config.pollProgram s.poll.index

/-- The next item of the external callbacks: the first one State lists, else a free value (log entry 12). -/
def State.nextCbItem (s : State) : CbItem :=
  match s.cbItems with
  | x :: _ => x
  | [] => Config.callbackItem s.cbIdx

/-- POLL starts an operation only while ISR_ACTIVE = None and no DAC hold is in force (60_exceptions.md R252 (2), R258). -/
def State.pollMayStep (s : State) : Bool :=
  s.isr.isNone && s.poll.hold.isNone

/-- The operation word of a handler (30_encoding.md R85). -/
def handlerInstr : Handler → Instr
  | .capIsr => .capIsr
  | .xchIsr d => .xchIsr d
  | .ftIsr => .ftIsr

/-- `i` as an agent without data operands presents it: the ports keep what they carry. -/
def State.plainOp (s : State) (i : Instr) : IssuedOp :=
  { word := encode i, a := s.portA, b := s.portB }

/-- The operation the active handler's next step executes: its own micro-step, ALIGN_STEP as the receive callback,
ALIGN_STEP's request, or the operation an external callback issues (30_encoding.md R86; 44_alignment.md R190). `none` for a
callback item without an operation word. -/
def State.isrOp (s : State) (c : IsrCtx) : Option IssuedOp :=
  match c.cb with
  | .none => some (s.plainOp (handlerInstr c.handler))
  | .alignEntry => some (s.plainOp .alignStep)
  | .alignEven _ => some (s.plainOp .alignStep)
  | .alignOdd _ _ => some (s.plainOp .alignStep)
  | .alignRequest => some (s.plainOp (.phaseRequest .increase))
  | .alignFinish _ => some (s.plainOp .alignStep)
  | .external _ =>
    match s.nextCbItem with
    | .op o => some o
    | .fill _ _ => none
    | .ret => none

/-- The agent that steps on event `e` and the operation word it presents, where the step has one: the fetch. -/
def State.currentOp (s : State) : Event → Option (Agent × IssuedOp)
  | .hw a o => some (.hw a, o)
  | .poll => if s.pollMayStep && s.poll.booted then some (.poll, s.nextPollOp) else none
  | .isr => s.isr.bind (fun c => (s.isrOp c).map (fun o => (.isr, o)))
  | .dispatch _ => none
  | .dacReady => none

/-- `a` issues `o`: its operand ports carry `o`'s operands (30_encoding.md R82). -/
def State.issue (s : State) (a : Agent) (o : IssuedOp) : State :=
  { s with agent := a, portA := o.a, portB := o.b }

/-- The boot step (70_reset_and_hazards.md R280): CAP_IE <- 0b111, FT_TOP <- NOMINAL_TOP. -/
def State.boot (s : State) : State :=
  { s with
    cap := { s.cap with ie := 0b111 }
    ft := { s.ft with top := s.cfg.nominalTop }
    poll := { s.poll with booted := true } }

/-- POLL's step after a DAC hold: the withheld result is delivered, the next operation is next (60_exceptions.md R258;
log entry 22). -/
def State.endHold (s : State) (h : DacHold) : State :=
  { s with agent := .poll, poll := { s.poll with hold := none } }.complete h.result

/-- A POLL step without an operation word: the end of a DAC hold the sink has accepted, or the boot step; where POLL may not
step, the event passes (log entry 7). -/
def State.pollOther (s : State) : State :=
  match s.isr, s.poll.hold with
  | none, some h => if h.accepted then s.endHold h else s
  | none, none => if s.poll.booted then s else s.boot
  | some _, _ => s

/-- An external callback writes word `w` of the slot just transmitted; a receive callback writes no slot and is refused
(43_frame_exchange.md R176, R177; 60_exceptions.md R247). -/
def State.fillSlot (s : State) (c : IsrCtx) (w : BitVec 4) (v : Word) : Except Fault State :=
  match c.handler with
  | .xchIsr .tx =>
    (Memory.writeWord s.cfg.nTx s.tx.slots c.done.toNat w.toNat v).map
      (fun m => { s with tx := { s.tx with slots := m } }.advance)
  | _ => .ok s.refuse

/-- An external callback returns: its items go on, the handler ends. -/
def State.endCallback (s : State) (c : IsrCtx) : State :=
  s.advance.leaveExchange c

/-- An ISR step without an operation word: an external callback's fill or return; where no handler is active the event
passes (log entry 7). -/
def State.isrOther (s : State) : Except Fault State :=
  match s.isr with
  | none => .ok s
  | some c =>
    match s.nextCbItem with
    | .fill w v => { s with agent := .isr }.fillSlot c w v
    | .ret => .ok ({ s with agent := .isr }.endCallback c)
    | .op _ => .ok s

/-- The dispatch step (60_exceptions.md R250); where it may not be taken the event passes (log entry 7). -/
def State.dispatch (s : State) (h : Handler) : State :=
  if s.mayDispatch h then s.enterHandler h else s

/-- ENV signals that the DAC sink has accepted, which it may at any point (60_exceptions.md R252 (5), R258): no step of POLL,
whose result is delivered by its own next step (log entry 22). Without a hold the event passes (log entry 7). -/
def State.dacReady (s : State) : State :=
  match s.poll.hold with
  | some h => { s with poll := { s.poll with hold := some { h with accepted := true } } }
  | none => s

/-- A step without an operation word on event `e`. -/
def State.otherStep (s : State) : Event → Except Fault State
  | .hw _ _ => .ok s
  | .poll => .ok s.pollOther
  | .isr => s.isrOther
  | .dispatch h => .ok (s.dispatch h)
  | .dacReady => .ok s.dacReady

/-- The issuer a word placed from outside is given: the agent of 30_encoding.md R85, and for the instanced operations their
declared side (40_ring_buffer.md R108; 46_realigner.md R226). A word of no agent goes to POLL. -/
def placeFor (p : Params) : Option Instr → Agent
  | some (.rbPut i) => if p.rbProducer[i.toNat]? = some .isr then .isr else .poll
  | some (.rbGet i) => if p.rbConsumer[i.toNat]? = some .isr then .isr else .poll
  | some .capCntTick => .hw .capcnt
  | some (.capEdge _) => .hw .capcnt
  | some .capIsr => .isr
  | some (.dmaWord .rx) => .hw .dmaRx
  | some (.dmaWord .tx) => .hw .dmaTx
  | some (.xchIsr _) => .isr
  | some .alignStep => .isr
  | some .ftTick => .hw .ftimer
  | some .ftIsr => .isr
  | some (.raSetAlignment i _) => if p.raOwner[i.toNat]? = some .isr then .isr else .poll
  | some (.raRealignFrame i) => if p.raOwner[i.toNat]? = some .isr then .isr else .poll
  | some .capPoll => .poll
  | some .steerPulse => .poll
  | some .xchStart => .poll
  | some (.phaseRequest _) => .poll
  | some .statsSnapshot => .poll
  | none => .poll

/-- The interrupt context in which `i` is the next operation: its handler at micro-step 1, the receive callback for
ALIGN_STEP, an external callback otherwise (30_encoding.md R86). -/
def ctxFor : Option Instr → IsrCtx
  | some .capIsr => IsrCtx.enter .capIsr
  | some (.xchIsr d) => IsrCtx.enter (.xchIsr d)
  | some .ftIsr => IsrCtx.enter .ftIsr
  | some .alignStep => { IsrCtx.enter (.xchIsr .rx) with mu := 6, hX := flagEnd, cb := .alignEntry }
  | _ => { IsrCtx.enter (.xchIsr .rx) with mu := 6, hX := flagEnd, cb := .external .start }

/-- Place an operation word for its agent, with the ports as they stand, and schedule that agent next. -/
def State.place (s : State) (w : Word) : State :=
  let i := (decode w).toOption
  let o : IssuedOp := { word := w, a := s.portA, b := s.portB }
  match placeFor s.cfg i with
  | .hw a => { s with sched := .hw a o :: s.sched }
  | .poll =>
    { s with
      sched := .poll :: s.sched
      isr := none
      poll := { s.poll with booted := true, prog := o :: s.poll.prog, stage := .start, hold := none } }
  | .isr =>
    { s with sched := .isr :: s.sched, isr := some (ctxFor i), cbItems := .op o :: s.cbItems }

end Sys2Proof.Machine
end

