-- ==== Sys2Proof/Machine/Alignment.lean ====
section
/-! DEFINITION. FrameAlignmentDetector: ALIGN_STEP (44_alignment.md). -/

namespace Sys2Proof.Machine

/-- The slot predicate on words 0 and 8 of a slot (44_alignment.md R191). -/
def slotOk (p : Params) (w0 w8 : Word) : Bool :=
  decide (w0.extractLsb' 25 7 = p.fasPattern) && decide (w8.extractLsb' 30 2 = p.nfasPattern)

/-- ALIGN_STEP returns with trace result `r`, and with it XCH_ISR ends (44_alignment.md R190; 43_frame_exchange.md R174 μ6). -/
def State.alignReturn (s : State) (h : IsrCtx) (r : Result) : State :=
  (s.observe (.trace .alignStep r)).leaveExchange h

/-- The check ends: `DET_CNT <- ALIGN_CHECK_INTERVAL`, then ALIGN_STEP returns (44_alignment.md R190). -/
def alignReload (h : IsrCtx) (r : Result) (s : State) : State :=
  { s with detCnt := s.cfg.alignCheckInterval }.alignReturn h r

/-- ALIGN_STEP's first access: count the double-frame; the scan starts where the counter reaches 0 (44_alignment.md R190). -/
def alignCount (h : IsrCtx) (s : State) : State :=
  let s' := { s with detCnt := s.detCnt - 1 }
  if s'.detCnt ≠ 0 then s'.alignReturn h (.ok .unit) else s'.setIsr { h with cb := .alignEven 0 }

/-- The read of word 0 of slot `slot` (44_alignment.md R190, R192). -/
def alignEven (h : IsrCtx) (slot : Nat) (s : State) : Except Fault State :=
  (Memory.readWord s.cfg.nRx s.rx.slots slot 0).map (fun w0 => s.setIsr { h with cb := .alignOdd slot w0 })

/-- The slot's verdict: a bad slot is counted and aborts the scan, the last good one ends it (44_alignment.md R190, R194). -/
def alignJudge (h : IsrCtx) (slot : Nat) (w0 w8 : Word) (s : State) : State :=
  if slotOk s.cfg w0 w8 then
    if slot + 1 < s.cfg.nRx then s.setIsr { h with cb := .alignEven (slot + 1) } else alignReload h (.ok .unit) s
  else { s with stats := { s.stats with desync := s.stats.desync + 1 } }.setIsr { h with cb := .alignRequest }

/-- The read of word 8 of slot `slot`, then the verdict (44_alignment.md R190). -/
def alignOdd (h : IsrCtx) (slot : Nat) (w0 : Word) (s : State) : Except Fault State :=
  (Memory.readWord s.cfg.nRx s.rx.slots slot 8).map (fun w8 => alignJudge h slot w0 w8 s)

/-- After the request: a `Busy` is counted, the settle counter reloaded, the result is Desync (44_alignment.md R190, R194). -/
def alignFinish (h : IsrCtx) (busy : Bool) (s : State) : State :=
  alignReload h .desync
    (if busy then { s with stats := { s.stats with phaseBusy := s.stats.phaseBusy + 1 } } else s)

/-- ALIGN_STEP's next access, where the receive callback is running (44_alignment.md R190; log entry 11). -/
def alignStage (h : IsrCtx) (s : State) : Except Fault State :=
  match h.cb with
  | .alignEntry => .ok (alignCount h s)
  | .alignEven slot => alignEven h slot s
  | .alignOdd slot w0 => alignOdd h slot w0 s
  | .alignFinish busy => .ok (alignFinish h busy s)
  | .alignRequest => .ok s.refuse
  | .none => .ok s.refuse
  | .external _ => .ok s.refuse

/-- ALIGN_STEP: its next access; refused where it is not the receive callback of a running XCH_ISR(0) (30_encoding.md R86,
R89). -/
def execAlignStep (s : State) : Host.Outcome State Fault Refusal :=
  match s.agent, s.isr with
  | .isr, some h => if h.handler = .xchIsr .rx then settle s (alignStage h s) else .next s.refuse
  | _, _ => .next s.refuse

end Sys2Proof.Machine
end

