-- ==== Sys2Proof/Machine/Capture.lean ====
section
/-! DEFINITION. TimestampCapture: CAP_CNT_TICK, CAP_EDGE, CAP_ISR, CAP_POLL (41_capture.md). -/

namespace Sys2Proof.Machine

/-- One tick of the capture counter: OVF on the wrap (41_capture.md R120). -/
def Capture.tick (c : Capture) : Capture :=
  { c with cnt := c.cnt + 1, sr := if c.cnt + 1 = 0 then c.sr ||| flagOvf else c.sr }

/-- CAP_CNT_TICK (41_capture.md R120). -/
def execCapCntTick (s : State) : Host.Outcome State Fault Refusal :=
  byAgent (.hw .capcnt) (fun s => .ok { s with cap := s.cap.tick }) s

/-- A PPS edge is latched (41_capture.md R121). -/
def Capture.edge (c : Capture) : EdgeKind → Capture
  | .rising => { c with latchR := Reg.of c.cnt, sr := c.sr ||| flagLdr }
  | .falling => { c with latchF := Reg.of c.cnt, sr := c.sr ||| flagLdf }

/-- CAP_EDGE (41_capture.md R121). -/
def execCapEdge (kind : EdgeKind) (s : State) : Host.Outcome State Fault Refusal :=
  byAgent (.hw .capcnt) (fun s => .ok { s with cap := s.cap.edge kind }) s

/-- The timestamp of 41_capture.md R124: `(epoch << 16) | counter_value`. -/
def timestamp (epoch x : Half) : Word := (epoch.setWidth 32 <<< 16) ||| x.setWidth 32

/-- The epoch of an edge latched at `x`: the one after the pending overflow where OVF was read and `x <= tv`
(41_capture.md R122, R123). -/
def edgeEpoch (hSr : BitVec 3) (e tv x : Half) : Half :=
  if isOvf hSr ∧ x.toNat ≤ tv.toNat then e + 1 else e

/-- CAP_ISR μ5: publish the timestamps of the edges read and count the overflow read (41_capture.md R122). -/
def Capture.publish (c : Capture) (h : IsrCtx) : Capture :=
  let e := c.ovc
  { c with
    tsR := if isLdr h.hSr then Reg.of (timestamp (edgeEpoch h.hSr e h.hTv h.hRa) h.hRa) else c.tsR
    tsF := if isLdf h.hSr then Reg.of (timestamp (edgeEpoch h.hSr e h.hTv h.hRb) h.hRb) else c.tsF
    fresh := c.fresh ||| (if isLdr h.hSr then flagNewR else 0) ||| (if isLdf h.hSr then flagNewF else 0)
    ovc := if isOvf h.hSr then e + 1 else e }

/-- CAP_ISR micro-step `h.mu` (41_capture.md R122). -/
def capIsrStep (h : IsrCtx) (s : State) : Except Fault State :=
  match h.mu with
  | 1 => .ok ({ s with cap := { s.cap with sr := clearRead s.cap.sr s.cap.sr } }.setIsr { h with mu := 2, hSr := s.cap.sr })
  | 2 => .ok (s.setIsr { h with mu := 3, hTv := s.cap.cnt })
  | 3 =>
    if isLdr h.hSr then s.cap.latchR.read.map (fun v => s.setIsr { h with mu := 4, hRa := v })
    else .ok (s.setIsr { h with mu := 4 })
  | 4 =>
    if isLdf h.hSr then s.cap.latchF.read.map (fun v => s.setIsr { h with mu := 5, hRb := v })
    else .ok (s.setIsr { h with mu := 5 })
  | 5 => .ok ({ s with cap := s.cap.publish h }.leaveHandler .capIsr (.ok .unit))
  | _ => .ok s.refuse

/-- CAP_ISR: its next micro-step (41_capture.md R122). -/
def execCapIsr (s : State) : Host.Outcome State Fault Refusal :=
  byHandler .capIsr capIsrStep s

/-- A mailbox timestamp: `Some` where its NEW flag is set (41_capture.md R126). -/
def mailbox (isNew : Bool) (r : Reg Word) : Except Fault (Option Word) :=
  if isNew then r.read.map some else .ok none

/-- CAP_POLL's body: read and clear the mailbox (41_capture.md R126). -/
def capPollStep (s : State) : Except Fault State := do
  let rising ← mailbox (isNewR s.cap.fresh) s.cap.tsR
  let falling ← mailbox (isNewF s.cap.fresh) s.cap.tsF
  .ok ({ s with cap := { s.cap with fresh := 0 } }.complete (.ok (.event rising falling)))

/-- CAP_POLL (41_capture.md R126). -/
def execCapPoll (s : State) : Host.Outcome State Fault Refusal :=
  byAgent .poll (critical capPollStep) s

end Sys2Proof.Machine
end

