-- ==== Sys2Proof/Machine/Exchange.lean ====
section
/-! DEFINITION. SerialFrameExchange: XCH_START, DMA_WORD, XCH_ISR (43_frame_exchange.md). -/

namespace Sys2Proof.Machine

/-- A current descriptor at the start of `slot`. -/
def DmaCur.arm (slot : Byte) : DmaCur := { valid := true, slot := slot, pos := 0 }

/-- A next descriptor on `slot`. -/
def DmaNxt.arm (slot : Byte) : DmaNxt := { valid := true, slot := slot }

/-- The register view of a current descriptor: `valid ++ zext_7(slot) ++ zext_8(pos)` (10_state.md R43). -/
def DmaCur.view (c : DmaCur) : BitVec 16 := (BitVec.ofBool c.valid ++ c.slot.setWidth 7 ++ c.pos : BitVec (1 + 7 + 8))

/-- The register view of a next descriptor: `valid ++ zext_7(slot) ++ 0x00` (10_state.md R43). -/
def DmaNxt.view (c : DmaNxt) : BitVec 16 := (BitVec.ofBool c.valid ++ c.slot.setWidth 7 ++ (0 : Byte) : BitVec (1 + 7 + 8))

/-- `(slot + k) mod N_d` (43_frame_exchange.md R174). -/
def slotAfter (n k : Nat) (slot : Byte) : Byte := BitVec.ofNat 8 ((slot.toNat + k) % n)

/-- Arm one direction (43_frame_exchange.md R170). -/
def Exchange.start (e : Exchange) : Exchange :=
  { e with
    cur := 0
    last := lastNone
    sr := 0
    dmaCur := DmaCur.arm 0
    dmaNxt := DmaNxt.arm 1
    ie := true }

/-- XCH_START's step: arm both directions; refused (AlreadyStarted) once either is enabled (43_frame_exchange.md R170). -/
def xchStartStep (s : State) : Except Fault State :=
  if s.rx.ie || s.tx.ie then .ok s.refuse
  else .ok ({ s with rx := s.rx.start, tx := s.tx.start }.complete (.ok .unit))

/-- XCH_START (43_frame_exchange.md R170). -/
def execXchStart (s : State) : Host.Outcome State Fault Refusal :=
  byAgent .poll xchStartStep s

/-- The engine of a direction (43_frame_exchange.md R171). -/
def dmaAgent : Dir → HwAgent
  | .rx => .dmaRx
  | .tx => .dmaTx

/-- The engine with a current descriptor: an idle one starts on an armed next descriptor; `none` where both are exhausted
(43_frame_exchange.md R171). -/
def Exchange.load (e : Exchange) : Option Exchange :=
  if e.dmaCur.valid then some e
  else if e.dmaNxt.valid then
    some { e with dmaCur := DmaCur.arm e.dmaNxt.slot, dmaNxt := { e.dmaNxt with valid := false } }
  else none

/-- The engine after the word at its position has moved (43_frame_exchange.md R171): END at the end of a slot; then the next
descriptor, or BUFF where none is armed. -/
def Exchange.moved (e : Exchange) : Exchange :=
  let k := e.dmaCur.pos + 1
  if k = 16 then
    if e.dmaNxt.valid then
      { e with sr := e.sr ||| flagEnd, dmaCur := DmaCur.arm e.dmaNxt.slot, dmaNxt := { e.dmaNxt with valid := false } }
    else { e with sr := e.sr ||| flagEnd ||| flagBuff, dmaCur := { e.dmaCur with valid := false, pos := k } }
  else { e with dmaCur := { e.dmaCur with pos := k } }

/-- One word of a loaded engine: into the slot (receive) or onto the line (transmit) (43_frame_exchange.md R171). -/
def dmaMove (d : Dir) (e : Exchange) (s : State) : Except Fault State :=
  match d with
  | .rx =>
    (Memory.writeWord s.cfg.nRx e.slots e.dmaCur.slot.toNat e.dmaCur.pos.toNat s.wordOperand).map
      (fun m => s.setXch .rx ({ e with slots := m } : Exchange).moved)
  | .tx =>
    (Memory.readWord s.cfg.nTx e.slots e.dmaCur.slot.toNat e.dmaCur.pos.toNat).map
      (fun v => (s.setXch .tx e.moved).observe (.lineOut v))

/-- One word of an idle engine: a received word is lost, a transmitted word is any value, a free one (43_frame_exchange.md
R171; log entry 5). -/
def dmaIdle (d : Dir) (s : State) : State :=
  match d with
  | .rx => s
  | .tx => { s with freeIdx := s.freeIdx + 1 }.observe (.lineOut (Config.idleLineWord s.freeIdx))

/-- DMA_WORD's step (43_frame_exchange.md R171). -/
def dmaStep (d : Dir) (s : State) : Except Fault State :=
  match (s.xch d).load with
  | some e => dmaMove d e s
  | none => .ok (dmaIdle d s)

/-- DMA_WORD (43_frame_exchange.md R171). -/
def execDmaWord (d : Dir) (s : State) : Host.Outcome State Fault Refusal :=
  byAgent (.hw (dmaAgent d)) (dmaStep d) s

/-- XCH_ISR μ1: read-and-clear of XCH_SR (43_frame_exchange.md R174; 20_memory.md R69). -/
def xchRead (d : Dir) (h : IsrCtx) (s : State) : State :=
  let e := s.xch d
  (s.setXch d { e with sr := clearRead e.sr e.sr }).setIsr { h with mu := 2, hX := e.sr }

/-- XCH_ISR μ2: record the finishing slot, publish it, advance (43_frame_exchange.md R174). -/
def xchPublish (d : Dir) (h : IsrCtx) (s : State) : State :=
  let e := s.xch d
  if isEnd h.hX then
    (s.setXch d { e with last := e.cur, cur := slotAfter (s.cfg.depth d) 1 e.cur }).setIsr
      { h with mu := 3, done := e.cur }
  else s.setIsr { h with mu := 3 }

/-- XCH_ISR μ3: arm the slot after the current one as next (43_frame_exchange.md R174). -/
def xchArm (d : Dir) (h : IsrCtx) (s : State) : State :=
  let e := s.xch d
  if isEnd h.hX then
    (s.setXch d { e with dmaNxt := DmaNxt.arm (slotAfter (s.cfg.depth d) 2 h.done) }).setIsr { h with mu := 4 }
  else s.setIsr { h with mu := 4 }

/-- XCH_ISR μ4: on BUFF count the event and restart the current descriptor at slot 0 (43_frame_exchange.md R174, R178). -/
def xchRestartCur (d : Dir) (h : IsrCtx) (s : State) : State :=
  let e := s.xch d
  if isBuff h.hX then
    (s.setXch d { e with errcnt := e.errcnt + 1, dmaCur := DmaCur.arm 0 }).setIsr { h with mu := 5 }
  else s.setIsr { h with mu := 5 }

/-- XCH_ISR μ5: on BUFF arm slot 1 as next and set the index to 0 (43_frame_exchange.md R174, R178). -/
def xchRestartNxt (d : Dir) (h : IsrCtx) (s : State) : State :=
  let e := s.xch d
  if isBuff h.hX then
    (s.setXch d { e with dmaNxt := DmaNxt.arm 1, cur := 0 }).setIsr { h with mu := 6 }
  else s.setIsr { h with mu := 6 }

/-- The callback of a direction: ALIGN_STEP where it is the receive callback, else an external one (43_frame_exchange.md R176,
R177). -/
def callbackOf (p : Params) : Dir → Callback
  | .rx =>
    match p.rxCallback with
    | .alignStep => .alignEntry
    | .external => .external .start
  | .tx => .external .start

/-- XCH_ISR μ6: invoke the callback of a completed slot; without one the handler ends (43_frame_exchange.md R174). -/
def xchCallback (d : Dir) (h : IsrCtx) (s : State) : State :=
  if isEnd h.hX then s.setIsr { h with cb := callbackOf s.cfg d }
  else s.leaveExchange h

/-- XCH_ISR micro-step `h.mu` (43_frame_exchange.md R174). -/
def xchIsrStep (d : Dir) (h : IsrCtx) (s : State) : Except Fault State :=
  match h.mu with
  | 1 => .ok (xchRead d h s)
  | 2 => .ok (xchPublish d h s)
  | 3 => .ok (xchArm d h s)
  | 4 => .ok (xchRestartCur d h s)
  | 5 => .ok (xchRestartNxt d h s)
  | 6 => .ok (xchCallback d h s)
  | _ => .ok s.refuse

/-- XCH_ISR: its next micro-step (43_frame_exchange.md R174). -/
def execXchIsr (d : Dir) (s : State) : Host.Outcome State Fault Refusal :=
  byHandler (.xchIsr d) (xchIsrStep d) s

end Sys2Proof.Machine
end

