-- ==== Sys2Proof/Machine/Phase.lean ====
section
/-! DEFINITION. FrameClockPhaseAdjuster and frame timer: PHASE_REQUEST, FT_TICK, FT_ISR (45_phase_adjust.md). -/

namespace Sys2Proof.Machine

/-- PA_PEND, which may not be read holding 3 (10_state.md R48; 93_implementation_defined.md U7; log entry 10). -/
def FrameTimer.readPend (t : FrameTimer) : Except Fault (BitVec 2) :=
  if t.pend = 3 then .error .mailboxStuck else .ok t.pend

/-- An accepted request: post `dir`, drop a stale match of an unarmed period, arm (45_phase_adjust.md R200). -/
def FrameTimer.post (t : FrameTimer) (dir : Nudge) : FrameTimer :=
  { t with pend := dir.code, matched := if t.armed then t.matched else false, armed := true }

/-- PHASE_REQUEST's one step, given how its result is delivered (45_phase_adjust.md R200). -/
def phaseStep (dir : Nudge) (deliver : State → Result → State) (s : State) : Except Fault State := do
  let pend ← s.ft.readPend
  if pend ≠ 0 then .ok (deliver s .busy) else .ok (deliver { s with ft := s.ft.post dir } (.ok .unit))

/-- The result goes back to ALIGN_STEP, which continues (44_alignment.md R190; log entry 11). -/
def State.answerAlign (s : State) (r : Result) : State :=
  match s.isr with
  | some h => (s.observe (.result s.agent r)).setIsr { h with cb := .alignFinish (decide (r = .busy)) }
  | none => s

/-- Is ALIGN_STEP at its request (44_alignment.md R190)? -/
def State.atRequest (s : State) : Bool :=
  match s.isr with
  | some h => decide (h.cb = .alignRequest)
  | none => false

/-- PHASE_REQUEST (45_phase_adjust.md R200): from POLL a critical section; from ISR as ALIGN_STEP's request, refused elsewhere
(30_encoding.md R85, R89). -/
def execPhaseRequest (dir : Nudge) (s : State) : Host.Outcome State Fault Refusal :=
  match s.agent with
  | .poll => settle s (critical (phaseStep dir State.complete) s)
  | .isr => if s.atRequest then settle s (phaseStep dir State.answerAlign s) else .next s.refuse
  | .hw _ => .next s.refuse

/-- One bit-clock tick ends the period (45_phase_adjust.md R202). -/
def FrameTimer.ends (t : FrameTimer) : Bool := decide (t.cnt = t.top - 1)

/-- The timer after one bit-clock tick (45_phase_adjust.md R202). -/
def FrameTimer.tick (t : FrameTimer) : FrameTimer :=
  if t.ends then { t with cnt := 0, matched := true } else { t with cnt := t.cnt + 1 }

/-- FT_TICK's step; the end of a period is a frame-sync (45_phase_adjust.md R202, R209). -/
def ftTickStep (s : State) : Except Fault State :=
  if s.ft.ends then .ok ({ s with ft := s.ft.tick }.observe .frameSync) else .ok { s with ft := s.ft.tick }

/-- FT_TICK (45_phase_adjust.md R202). -/
def execFtTick (s : State) : Host.Outcome State Fault Refusal :=
  byAgent (.hw .ftimer) ftTickStep s

/-- `NOMINAL_TOP + delta(p)` (45_phase_adjust.md R203). -/
def nudgedTop (nominal : Half) (pend : BitVec 2) : Half :=
  if pend = 1 then nominal + 1 else if pend = 2 then nominal - 1 else nominal

/-- FT_ISR μ2's effect on the timer for the pending request `pend` (45_phase_adjust.md R203). -/
def FrameTimer.apply (t : FrameTimer) (nominal : Half) (pend : BitVec 2) : FrameTimer :=
  { t with top := nudgedTop nominal pend, armed := if pend = 0 then false else t.armed, pend := 0 }

/-- FT_ISR micro-step `h.mu` (45_phase_adjust.md R203). -/
def ftIsrStep (h : IsrCtx) (s : State) : Except Fault State :=
  match h.mu with
  | 1 => .ok ({ s with ft := { s.ft with matched := false } }.setIsr { h with mu := 2 })
  | 2 => s.ft.readPend.map
      (fun pend => { s with ft := s.ft.apply s.cfg.nominalTop pend }.leaveHandler .ftIsr (.ok .unit))
  | _ => .ok s.refuse

/-- FT_ISR: its next micro-step (45_phase_adjust.md R203). -/
def execFtIsr (s : State) : Host.Outcome State Fault Refusal :=
  byHandler .ftIsr ftIsrStep s

end Sys2Proof.Machine
end

