-- ==== Sys2Proof/Machine/Realign.lean ====
section
/-! DEFINITION. BitRealigner: RA_SET_ALIGNMENT, RA_REALIGN_FRAME (46_realigner.md). -/

namespace Sys2Proof.Machine

/-- `set_alignment(n_bits)` (46_realigner.md R220). -/
def Realigner.set (p : Params) (nBits : Half) : Realigner :=
  { offset := BitVec.ofNat 8 (nBits.toNat % (p.f * 8)), carry := 0, reframe := List.replicate p.f 0 }

/-- RA_SET_ALIGNMENT's step. -/
def setAlignmentStep (i : Nat) (nBits : Half) (s : State) : Except Fault State := do
  let _ ← unitAt s.realigners i
  .ok ((s.setRealigner i (Realigner.set s.cfg nBits)).complete (.ok .unit))

/-- RA_SET_ALIGNMENT (46_realigner.md R220); refused out of range or from another than the owner context (R226). -/
def execRaSetAlignment (i : BitVec 8) (nBits : BitVec 16) (s : State) : Host.Outcome State Fault Refusal :=
  if i.toNat < s.cfg.raCount then bySide s.cfg.raOwner[i.toNat]? (setAlignmentStep i.toNat nBits) s
  else .next s.refuse

/-- The shifted bytes of a frame and the carry after it, `b` being the sub-octet part of the offset: each byte is
`(c >> b) | carry`, the carry becomes `c << (8 − b)` (46_realigner.md R221). -/
def shiftBytes (b : Nat) : Byte → List Byte → List Byte × Byte
  | carry, [] => ([], carry)
  | carry, c :: cs =>
    let rest := shiftBytes b (c <<< (8 - b)) cs
    ((c >>> b ||| carry) :: rest.1, rest.2)

/-- The bytes `buf[0 .. F + B − 1]` of one frame: the overlap left by the previous frame, then the shifted frame
(46_realigner.md R221). -/
def Realigner.buffer (r : Realigner) (inp : List Byte) : List Byte :=
  r.reframe.take (r.offset.toNat / 8) ++ (shiftBytes (r.offset.toNat % 8) r.carry inp).1

/-- The output frame (46_realigner.md R221). -/
def Realigner.output (f : Nat) (r : Realigner) (inp : List Byte) : List Byte :=
  (r.buffer inp).take f

/-- The realigner after one frame: the bytes past the frame are the new overlap, zero after them (46_realigner.md R221). -/
def Realigner.next (f : Nat) (r : Realigner) (inp : List Byte) : Realigner :=
  { offset := r.offset
    carry := (shiftBytes (r.offset.toNat % 8) r.carry inp).2
    reframe := (r.buffer inp).drop f ++ List.replicate (f - r.offset.toNat / 8) 0 }

/-- RA_REALIGN_FRAME's step (46_realigner.md R221). DESIGN CHOICE: SlotIndex where the overlap read, `RA_REFRAME[0 .. B−1]`, goes past
the bytes the realigner has (log entry 23). -/
def realignStep (i : Nat) (s : State) : Except Fault State := do
  let r ← unitAt s.realigners i
  if r.offset.toNat / 8 ≤ r.reframe.length then
    .ok ((s.setRealigner i (r.next s.cfg.f s.frameOperand)).complete (.ok (.frame (r.output s.cfg.f s.frameOperand))))
  else .error .slotIndex

/-- RA_REALIGN_FRAME (46_realigner.md R221); refused out of range or from another than the owner context (R226). -/
def execRaRealignFrame (i : BitVec 8) (s : State) : Host.Outcome State Fault Refusal :=
  if i.toNat < s.cfg.raCount then bySide s.cfg.raOwner[i.toNat]? (realignStep i.toNat) s else .next s.refuse

end Sys2Proof.Machine
end

