-- ==== Sys2Proof/Machine/RingBuffer.lean ====
section
/-! DEFINITION. LockFreeRingBuffer: RB_PUT, RB_GET (40_ring_buffer.md). -/

namespace Sys2Proof.Machine

/-- The stage, where it belongs to ring `i`; an operation on another ring begins at μ1. -/
def RbStage.on (i : Nat) : RbStage → RbStage
  | .start => .start
  | .putStore j w nw => if j = i then .putStore j w nw else .start
  | .putPublish j nw => if j = i then .putPublish j nw else .start
  | .getRead j r => if j = i then .getRead j r else .start
  | .getPublish j r v => if j = i then .getPublish j r v else .start

/-- The cursor after `c` in a ring of capacity `n` (40_ring_buffer.md R101: modulo `RB_N + 1`). -/
def nextCursor (n c : Nat) : Nat := (c + 1) % (n + 1)

/-- RB_PUT μ1: read both cursors, fail with Full where no slot is free (40_ring_buffer.md R101). -/
def putBegin (i : Nat) (s : State) : Except Fault State := do
  let ring ← unitAt s.rings i
  let nw := nextCursor s.cfg.rbN ring.wr
  if nw = ring.rd then .ok (s.complete .full) else .ok (s.setStage (.putStore i ring.wr nw))

/-- RB_PUT μ2: `MemWrite(RB_BUF[i], w, RB_T_W, elem)`. -/
def putStore (i w nw : Nat) (s : State) : Except Fault State := do
  let ring ← unitAt s.rings i
  let ring' ← ring.writeSlot w s.elemOperand
  .ok ((s.setRing i ring').setStage (.putPublish i nw))

/-- RB_PUT μ3: `RB_WR[i] <- nw`, one atomic publication. -/
def putPublish (i nw : Nat) (s : State) : Except Fault State := do
  let ring ← unitAt s.rings i
  .ok ((s.setRing i { ring with wr := nw }).complete (.ok .unit))

/-- The next micro-step of RB_PUT on ring `i` (40_ring_buffer.md R101, R102). -/
def putStep (i : Nat) (s : State) : Except Fault State :=
  match s.stage.on i with
  | .putStore _ w nw => putStore i w nw s
  | .putPublish _ nw => putPublish i nw s
  | .start => putBegin i s
  | .getRead _ _ => putBegin i s
  | .getPublish _ _ _ => putBegin i s

/-- RB_PUT (40_ring_buffer.md R101); refused out of range (30_encoding.md R87) or from another than the declared producer
(R108). -/
def execRbPut (i : BitVec 8) (s : State) : Host.Outcome State Fault Refusal :=
  if i.toNat < s.cfg.rbCount then bySide s.cfg.rbProducer[i.toNat]? (putStep i.toNat) s else .next s.refuse

/-- RB_GET μ1: read both cursors, fail with Empty where they agree (40_ring_buffer.md R103). -/
def getBegin (i : Nat) (s : State) : Except Fault State := do
  let ring ← unitAt s.rings i
  if ring.rd = ring.wr then .ok (s.complete .empty) else .ok (s.setStage (.getRead i ring.rd))

/-- RB_GET μ2: `MemRead(RB_BUF[i], r, RB_T_W)`. -/
def getRead (i r : Nat) (s : State) : Except Fault State := do
  let ring ← unitAt s.rings i
  let v ← ring.readSlot r
  .ok (s.setStage (.getPublish i r v))

/-- RB_GET μ3: `RB_RD[i] <- (r + 1) mod (RB_N + 1)`, one atomic publication. -/
def getPublish (i r v : Nat) (s : State) : Except Fault State := do
  let ring ← unitAt s.rings i
  .ok ((s.setRing i { ring with rd := nextCursor s.cfg.rbN r }).complete (.ok (.elem v)))

/-- The next micro-step of RB_GET on ring `i` (40_ring_buffer.md R103). -/
def getStep (i : Nat) (s : State) : Except Fault State :=
  match s.stage.on i with
  | .getRead _ r => getRead i r s
  | .getPublish _ r v => getPublish i r v s
  | .start => getBegin i s
  | .putStore _ _ _ => getBegin i s
  | .putPublish _ _ => getBegin i s

/-- RB_GET (40_ring_buffer.md R103); refused out of range (30_encoding.md R87) or from another than the declared consumer
(R108). -/
def execRbGet (i : BitVec 8) (s : State) : Host.Outcome State Fault Refusal :=
  if i.toNat < s.cfg.rbCount then bySide s.cfg.rbConsumer[i.toNat]? (getStep i.toNat) s else .next s.refuse

end Sys2Proof.Machine
end

