-- ==== Sys2Proof/Machine/Statistics.lean ====
section
/-! DEFINITION. STATS_SNAPSHOT (60_exceptions.md R260–R262). -/

namespace Sys2Proof.Machine

/-- The snapshot of 60_exceptions.md R262; `rx_overrun` and `tx_underrun` are XCH_ERRCNT (10_state.md R55). -/
def State.snapshot (s : State) : Snapshot :=
  { rxOverrun := s.rx.errcnt
    txUnderrun := s.tx.errcnt
    desync := s.stats.desync
    phaseBusy := s.stats.phaseBusy
    ppsLoss := s.stats.ppsLoss
    calFail := s.stats.calFail
    stState := s.steer.state
    stFlags := s.steer.flags
    paPend := s.ft.pend }

/-- STATS_SNAPSHOT (60_exceptions.md R262). -/
def execStatsSnapshot (s : State) : Host.Outcome State Fault Refusal :=
  byAgent .poll (critical (fun s => .ok (s.complete (.ok (.snapshot s.snapshot))))) s

end Sys2Proof.Machine
end

