-- ==== Sys2Proof/Machine/Steering.lean ====
section
/-! DEFINITION. OscillatorSteering: STEER_PULSE (42_steering.md). All intermediates are exact integers, every division
truncates toward zero, a value stored into an `i32` register is `trunc_32` of it (R160). -/

namespace Sys2Proof.Machine

/-- What a pulse works on: the steering registers, the statistics, and the word written to the DAC sink, if any. -/
structure Servo where
  st : Steering
  stats : Stats
  dac : Option (BitVec 12)
  deriving DecidableEq, Repr, Inhabited

/-- `Init` = 0 (10_state.md R30). -/
def stInit : BitVec 3 := 0

/-- `CalibrateMin` = 1. -/
def stCalMin : BitVec 3 := 1

/-- `CalibrateMax` = 2. -/
def stCalMax : BitVec 3 := 2

/-- `FreqDiscipline` = 3. -/
def stFreq : BitVec 3 := 3

/-- `PhaseDiscipline` = 4. -/
def stPhase : BitVec 3 := 4

/-- The DAC word of a logical value (42_steering.md R158). -/
def dacWord (p : Params) (value : Word) : BitVec 12 :=
  BitVec.ofNat 12 (clampInt (value >>> p.dacShift).toNat 0 Config.dacMaxVal).toNat

/-- `DAC_VALUE <- value; dac_write()` (42_steering.md R158). -/
def Servo.drive (p : Params) (value : Word) (v : Servo) : Servo :=
  let w := dacWord p value
  { v with st := { v.st with dacValue := Reg.of value, dacOut := Reg.of w }, dac := some w }

/-- `enter(Init)` (42_steering.md R157). -/
def Servo.enterInit (p : Params) (v : Servo) : Servo :=
  { v with st := { v.st with state := stInit, count := p.initDiscard } }

/-- The calibration countdown `PERIODS + CAL_SETTLE` (42_steering.md R157). -/
def calCount (p : Params) : Word := BitVec.ofNat 32 (p.periods + p.calSettle)

/-- `enter(CalibrateMin)` (42_steering.md R157). -/
def Servo.enterCalMin (p : Params) (v : Servo) : Servo :=
  { v with st := { v.st with state := stCalMin, count := calCount p, minOffset := Reg.of 0 } }.drive p 0

/-- `enter(CalibrateMax)` (42_steering.md R157). -/
def Servo.enterCalMax (p : Params) (v : Servo) : Servo :=
  { v with st := { v.st with state := stCalMax, count := calCount p, maxOffset := Reg.of 0 } }.drive p (trunc32 p.dacMax)

/-- `enter(FreqDiscipline)` (42_steering.md R157). -/
def Servo.enterFreq (p : Params) (v : Servo) : Servo :=
  { v with st := { v.st with state := stFreq, count := p.settle } }

/-- `enter(PhaseDiscipline)` (42_steering.md R157). -/
def Servo.enterPhase (v : Servo) : Servo :=
  { v with st := { v.st with state := stPhase, count := 0 } }

/-- `LAST_REF <- ts` (42_steering.md R143). -/
def Servo.snap (ts : Word) (v : Servo) : Servo :=
  { v with st := { v.st with lastRef := ts } }

/-- The gate's Δtick (42_steering.md R141). -/
def gateDelta (st : Steering) (tick : Word) : Word := tick - st.lastTick

/-- The gate's verdict (42_steering.md R141). -/
def gateAccepts (p : Params) (st : Steering) (tick : Word) : Bool :=
  decide (p.gateMin ≤ (gateDelta st tick).toNat ∧ (gateDelta st tick).toNat ≤ p.gateMax)

/-- `offset_of(ts)` (42_steering.md R142). -/
def offsetOf (p : Params) (st : Steering) (ts : Word) : Int :=
  signed32 (ts - st.lastRef - p.nominalInterval)

/-- `init_pulse(ts)` (42_steering.md R144). -/
def initPulse (p : Params) (ts : Word) (v : Servo) : Servo :=
  let v := v.snap ts
  let v := { v with st := { v.st with count := v.st.count - 1 } }
  if v.st.count = 0 then
    if isHasCal v.st.flags then v.enterFreq p else v.enterCalMin p
  else v

/-- Does this calibration pulse accumulate: `ST_COUNT <= PERIODS` (42_steering.md R145)? -/
def accumulates (p : Params) (st : Steering) : Bool := decide (st.count.toNat ≤ p.periods)

/-- A calibration accumulator after a pulse (42_steering.md R145). -/
def accumulate (p : Params) (st : Steering) (acc : Reg Word) (offset : Int) : Except Fault (Reg Word) :=
  if accumulates p st then acc.read.map (fun a => Reg.of (trunc32 (signed32 a + offset))) else .ok acc

/-- `slope(mn, mx)` (42_steering.md R148). -/
def calSlope (p : Params) (mn mx : Int) : Word := trunc32 (((p.periods : Int) * p.dacRange).tdiv (mx - mn))

/-- `center(s, mn)` (42_steering.md R148). -/
def calCenter (p : Params) (slope mn : Int) : Word := trunc32 (((-slope) * mn).tdiv p.periods)

/-- `cal_refuse()` (42_steering.md R151). -/
def calRefuse (p : Params) (v : Servo) : Servo :=
  { v with
    st := { v.st with flags := (v.st.flags ||| flagCalErr) &&& ~~~flagHasCal }
    stats := { v.stats with calFail := v.stats.calFail + 1 } }.enterInit p

/-- `finish_calibration()` past its precondition (42_steering.md R147). -/
def calAccept (p : Params) (mn mx : Int) (v : Servo) : Servo :=
  let slope := calSlope p mn mx
  let center := calCenter p (signed32 slope) mn
  let v := { v with st := { v.st with slope := Reg.of slope, dacCenter := Reg.of center } }
  let v := v.drive p (trunc32 (clampInt (signed32 center) 0 p.dacMax))
  { v with st := { v.st with flags := v.st.flags ||| flagHasCal } }.enterFreq p

/-- `finish_calibration()` (42_steering.md R147, R151). -/
def finishCalibration (p : Params) (v : Servo) : Except Fault (Servo × Result) := do
  let mn ← v.st.minOffset.read
  let mx ← v.st.maxOffset.read
  if signed32 mn < 0 ∧ 0 < signed32 mx then .ok (calAccept p (signed32 mn) (signed32 mx) v, .ok .unit)
  else .ok (calRefuse p v, .calibrationPreconditionViolated)

/-- `cal_pulse(ts, offset, MIN)` (42_steering.md R145). -/
def calMinPulse (p : Params) (ts : Word) (offset : Int) (v : Servo) : Except Fault (Servo × Result) := do
  let v := v.snap ts
  let acc ← accumulate p v.st v.st.minOffset offset
  let v := { v with st := { v.st with minOffset := acc, count := v.st.count - 1 } }
  .ok (if v.st.count = 0 then v.enterCalMax p else v, .ok .unit)

/-- `cal_pulse(ts, offset, MAX)` (42_steering.md R146). -/
def calMaxPulse (p : Params) (ts : Word) (offset : Int) (v : Servo) : Except Fault (Servo × Result) := do
  let v := v.snap ts
  let acc ← accumulate p v.st v.st.maxOffset offset
  let v := { v with st := { v.st with maxOffset := acc, count := v.st.count - 1 } }
  if v.st.count = 0 then finishCalibration p v else .ok (v, .ok .unit)

/-- `settle(offset)`: the frequency settle counter (42_steering.md R153). -/
def settleCount (p : Params) (offset : Int) (count : Word) : Word :=
  if p.freqLockThresh < offset.natAbs then p.settle else count - 1

/-- The new DAC_CENTER of a correction (42_steering.md R154). -/
def correctedCenter (center slope offset : Int) : Word := trunc32 (center - (offset * slope).tdiv 4)

/-- The new DAC_VALUE of a correction, from the new DAC_CENTER (42_steering.md R154). -/
def correctedValue (p : Params) (center slope offset : Int) : Word :=
  trunc32 (clampInt (center - (offset * slope * 3).tdiv 4) 0 p.dacMax)

/-- `correct(offset)` (42_steering.md R154). -/
def correct (p : Params) (offset : Int) (v : Servo) : Except Fault Servo := do
  let slope ← v.st.slope.read
  let center ← v.st.dacCenter.read
  let center' := correctedCenter (signed32 center) (signed32 slope) offset
  let v := { v with st := { v.st with dacCenter := Reg.of center' } }
  .ok (v.drive p (correctedValue p (signed32 center') (signed32 slope) offset))

/-- `freq_pulse(ts, offset)` (42_steering.md R152). -/
def freqPulse (p : Params) (ts : Word) (offset : Int) (v : Servo) : Except Fault Servo := do
  let v := v.snap ts
  let v := { v with st := { v.st with count := settleCount p offset v.st.count } }
  let v ← correct p offset v
  .ok (if v.st.count = 0 then v.enterPhase else v)

/-- `phase_pulse(offset)` (42_steering.md R155). -/
def phasePulse (p : Params) (offset : Int) (v : Servo) : Except Fault Servo := do
  let v := v.snap (v.st.lastRef + p.nominalInterval)
  let v ← correct p offset v
  .ok (if p.phaseLossThresh < offset.natAbs then v.enterFreq p else v)

/-- A pulse the gate refused (42_steering.md R140, R143). -/
def lossPulse (p : Params) (ts : Word) (v : Servo) : Servo :=
  let v := (v.snap ts).enterInit p
  { v with stats := { v.stats with ppsLoss := v.stats.ppsLoss + 1 } }

/-- A pulse the gate accepted, by the steering state (42_steering.md R140). -/
def acceptedPulse (p : Params) (ts : Word) (v : Servo) : Except Fault (Servo × Result) :=
  let offset := offsetOf p v.st ts
  match v.st.state.toNat with
  | 0 => .ok (initPulse p ts v, .ok .unit)
  | 1 => calMinPulse p ts offset v
  | 2 => calMaxPulse p ts offset v
  | 3 => (freqPulse p ts offset v).map (fun v => (v, .ok .unit))
  | 4 => (phasePulse p offset v).map (fun v => (v, .ok .unit))
  | _ => .error .badSteeringState

/-- STEER_PULSE on the servo (42_steering.md R140): the gate first, LAST_TICK on every pulse (R141). -/
def steerPulse (p : Params) (ts tick : Word) (v : Servo) : Except Fault (Servo × Result) :=
  let accepted := gateAccepts p v.st tick
  let v := { v with st := { v.st with lastTick := tick } }
  if accepted then acceptedPulse p ts v else .ok (lossPulse p ts v, .lossOfPPS)

/-- The pulse ends: without a DAC write its result is delivered; with one POLL is held until the sink accepts
(60_exceptions.md R258). -/
def State.endPulse (s : State) (v : Servo) (r : Result) : State :=
  let s := { s with steer := v.st, stats := v.stats }
  match v.dac with
  | none => s.complete r
  | some w => { s with poll := { s.poll with hold := some { result := r, accepted := false } } }.observe (.dacSet s.cfg.dacChannel w)

/-- STEER_PULSE's step (42_steering.md R140). -/
def steerStep (s : State) : Except Fault State :=
  (steerPulse s.cfg s.tsOperand s.tickOperand { st := s.steer, stats := s.stats, dac := none }).map
    (fun o => s.endPulse o.1 o.2)

/-- STEER_PULSE (42_steering.md R140). -/
def execSteerPulse (s : State) : Host.Outcome State Fault Refusal :=
  byAgent .poll steerStep s

end Sys2Proof.Machine
end

