-- ==== Sys2Proof/Machine/Dispatch.lean ====
section
/-! DEFINITION. The meaning of every operation, one arm per constructor. -/

namespace Sys2Proof.Machine

def exec (i : Instr) (s : State) : Host.Outcome State Fault Refusal :=
  match i with
  | .rbPut ring => Sys2Proof.Machine.execRbPut ring s
  | .rbGet ring => Sys2Proof.Machine.execRbGet ring s
  | .capCntTick => Sys2Proof.Machine.execCapCntTick s
  | .capEdge kind => Sys2Proof.Machine.execCapEdge kind s
  | .capIsr => Sys2Proof.Machine.execCapIsr s
  | .capPoll => Sys2Proof.Machine.execCapPoll s
  | .steerPulse => Sys2Proof.Machine.execSteerPulse s
  | .xchStart => Sys2Proof.Machine.execXchStart s
  | .dmaWord d => Sys2Proof.Machine.execDmaWord d s
  | .xchIsr d => Sys2Proof.Machine.execXchIsr d s
  | .alignStep => Sys2Proof.Machine.execAlignStep s
  | .phaseRequest dir => Sys2Proof.Machine.execPhaseRequest dir s
  | .ftTick => Sys2Proof.Machine.execFtTick s
  | .ftIsr => Sys2Proof.Machine.execFtIsr s
  | .raSetAlignment inst nBits => Sys2Proof.Machine.execRaSetAlignment inst nBits s
  | .raRealignFrame inst => Sys2Proof.Machine.execRaRealignFrame inst s
  | .statsSnapshot => Sys2Proof.Machine.execStatsSnapshot s

end Sys2Proof.Machine
end

