-- ==== Sys2Proof/Machine/Step.lean ====
section
/-! DEFINITION. One step of the machine: the scheduled agent takes one indivisible step (60_exceptions.md R252). -/

namespace Sys2Proof.Machine

/-- The issuing agent executes its operation word; a word that spells no operation is refused (30_encoding.md R87;
60_exceptions.md R247). -/
def runWord (w : Word) (s : State) : Host.Outcome State Fault Refusal :=
  match decode w with
  | .ok i => exec i s
  | .error _ => .next s.refuse

/-- The scheduled agent's step. -/
def stepEvent (e : Event) (s : State) : Host.Outcome State Fault Refusal :=
  match s.currentOp e with
  | some (a, o) => runWord o.word (s.issue a o)
  | none => settle s (s.otherStep e)

/-- One step. After a model fault no step of any agent is defined (60_exceptions.md R246); a configuration outside
00_scope.md R8 is the fault BadConfig (log entry 14). -/
def step (s : State) : Host.Outcome State Fault Refusal :=
  match s.faults with
  | r :: _ => .fault r
  | [] => if s.cfg.valid then stepEvent s.nextEvent s.takeEvent else .next (s.mark .badConfig)

/-- `s` with the operation word `w` placed where the next step fetches: presented by its agent, which is scheduled next
(log entry 6). -/
def State.withFetchWord (s : State) (nbits w : Nat) : State :=
  s.place (BitVec.ofNat 32 (w % 2 ^ nbits))

end Sys2Proof.Machine
end

