-- ==== Sys2Proof/Safety.lean ====
section
/-! DEFINITION. What a safe state of the block is: no fault, a valid configuration, and every unit within the ranges its rules
give it. `Inv` is meant to hold at reset and to be kept by every step; the model faults of 60_exceptions.md R246 are then
unreachable, as that rule says of a conforming run. -/

namespace Sys2Proof.Safety

open Sys2Proof.Machine

/-- Occupancy of a ring of capacity `n` (40_ring_buffer.md R104): `(RB_WR − RB_RD) mod (RB_N + 1)`. -/
def occupancy (n : Nat) (r : Ring) : Nat := (r.wr + (n + 1) - r.rd) % (n + 1)

/-- Slot `j` holds an element put and not yet taken: it lies less than the occupancy ahead of the read cursor. -/
def holdsElement (n : Nat) (r : Ring) (j : Nat) : Prop := (j + (n + 1) - r.rd) % (n + 1) < occupancy n r

/-- Slot `j` of the ring holds a value (10_state.md R22). -/
def slotWritten (r : Ring) (j : Nat) : Prop := ∃ c, r.buf[j]? = some c ∧ c.written = true

/-- A ring of capacity `n` (10_state.md R22): its slots, its cursors in 0..RB_N, its unread slots written. -/
structure RingOk (n : Nat) (r : Ring) : Prop where
  slots : r.buf.length = n + 1
  wr : r.wr ≤ n
  rd : r.rd ≤ n
  unread : ∀ j, j ≤ n → holdsElement n r j → slotWritten r j

/-- The elements of a ring of capacity `n`, oldest first (40_ring_buffer.md R106). -/
def contents (n : Nat) (r : Ring) : List Nat :=
  (List.range (occupancy n r)).map (fun k => ((r.buf[(r.rd + k) % (n + 1)]?).map Reg.val).getD 0)

/-- What context `who` has read stays true until its next micro-step (40_ring_buffer.md R101, R103): single producer, single
consumer. -/
def StageOk (s : State) (who : Ctx) : RbStage → Prop
  | .start => True
  | .putStore i w nw =>
    s.cfg.rbProducer[i]? = some who ∧
    ∃ r, s.rings[i]? = some r ∧ w = r.wr ∧ nw = nextCursor s.cfg.rbN r.wr ∧ nw ≠ r.rd
  | .putPublish i nw =>
    s.cfg.rbProducer[i]? = some who ∧
    ∃ r, s.rings[i]? = some r ∧ nw = nextCursor s.cfg.rbN r.wr ∧ nw ≠ r.rd ∧ slotWritten r r.wr
  | .getRead i rd =>
    s.cfg.rbConsumer[i]? = some who ∧
    ∃ r, s.rings[i]? = some r ∧ rd = r.rd ∧ r.rd ≠ r.wr
  | .getPublish i rd v =>
    s.cfg.rbConsumer[i]? = some who ∧
    ∃ r, s.rings[i]? = some r ∧ rd = r.rd ∧ r.rd ≠ r.wr ∧ ∃ c, r.buf[rd]? = some c ∧ c.written = true ∧ c.val = v

/-- TimestampCapture: a flag is set only where its latch or timestamp holds a value (10_state.md R25, R28). -/
structure CaptureOk (c : Capture) : Prop where
  ldr : isLdr c.sr = true → c.latchR.written = true
  ldf : isLdf c.sr = true → c.latchF.written = true
  newR : isNewR c.fresh = true → c.tsR.written = true
  newF : isNewF c.fresh = true → c.tsF.written = true

/-- OscillatorSteering: ST_STATE is one of its five states (10_state.md R30; 42_steering.md R161), what the state reads holds a
value, DAC_VALUE is in 0..DAC_MAX once written (10_state.md R32; for a DAC_MAX that fits an i32). -/
structure SteeringOk (p : Params) (st : Steering) : Prop where
  state : st.state.toNat ≤ 4
  calMin : st.state = stCalMin ∨ st.state = stCalMax → st.minOffset.written = true
  calMax : st.state = stCalMax → st.maxOffset.written = true
  discipline : st.state = stFreq ∨ st.state = stPhase → st.slope.written = true ∧ st.dacCenter.written = true
  hasCal : isHasCal st.flags = true → st.slope.written = true ∧ st.dacCenter.written = true
  dacRange : p.dacMax < 2 ^ 31 → st.dacValue.written = true →
    0 ≤ signed32 st.dacValue.val ∧ signed32 st.dacValue.val ≤ p.dacMax

/-- One direction of the frame exchange of depth `n` (10_state.md R40–R44): memory in shape, indices and valid descriptors in
range, BUFF only with END (43_frame_exchange.md R174). -/
structure ExchangeOk (n : Nat) (e : Exchange) : Prop where
  slots : Memory.wf n e.slots = true
  cur : e.cur.toNat < n
  last : e.last.toNat < n ∨ e.last = lastNone
  dmaCur : e.dmaCur.valid = true → e.dmaCur.slot.toNat < n ∧ e.dmaCur.pos.toNat < 16
  dmaNxt : e.dmaNxt.valid = true → e.dmaNxt.slot.toNat < n
  buff : isBuff e.sr = true → isEnd e.sr = true

/-- The phase adjuster and frame timer (10_state.md R48–R50; 45_phase_adjust.md R203, R205): PA_PEND is one of its three values;
a pending request is armed; FT_TOP is nominal, or one off while its restoring match is armed. -/
structure FrameTimerOk (p : Params) (t : FrameTimer) : Prop where
  pend : t.pend ≠ 3
  armed : t.pend ≠ 0 → t.armed = true
  top : t.top = p.nominalTop ∨ (t.armed = true ∧ (t.top = p.nominalTop + 1 ∨ t.top = p.nominalTop - 1))

/-- A realigner (10_state.md R53; 46_realigner.md R222): offset below 8·F, F overlap bytes, zero past the whole bytes of the
offset, the carry's low bits zero. -/
structure RealignerOk (p : Params) (r : Realigner) : Prop where
  offset : r.offset.toNat < p.f * 8
  reframe : r.reframe.length = p.f
  overlap : ∀ j, r.offset.toNat / 8 ≤ j → j < p.f → r.reframe[j]? = some 0
  carry : ∃ k, r.carry.toNat = k * 2 ^ (8 - r.offset.toNat % 8)

/-- ALIGN_STEP's control point is inside a scan: DET_CNT has reached 0 and is not reloaded yet (44_alignment.md R190). -/
def scanning : Callback → Bool
  | .none => false
  | .alignEntry => false
  | .alignEven _ => true
  | .alignOdd _ _ => true
  | .alignRequest => true
  | .alignFinish _ => true
  | .external _ => false

/-- The callback of XCH_ISR(d) in a run (43_frame_exchange.md R176, R177). -/
def CallbackOk (s : State) (d : Dir) : Callback → Prop
  | .none => True
  | .alignEntry => d = .rx
  | .alignEven slot => d = .rx ∧ slot < s.cfg.nRx
  | .alignOdd slot _ => d = .rx ∧ slot < s.cfg.nRx
  | .alignRequest => d = .rx
  | .alignFinish _ => d = .rx
  | .external st => StageOk s .isr st

/-- The active handler: a micro-step its rule has, what it read still backed by state, a callback only at μ6 of an XCH_ISR
whose END was read (41_capture.md R122; 43_frame_exchange.md R174; 45_phase_adjust.md R203). -/
def IsrOk (s : State) (c : IsrCtx) : Prop :=
  match c.handler with
  | .capIsr =>
    c.cb = .none ∧ 1 ≤ c.mu ∧ c.mu ≤ 5 ∧
    (isLdr c.hSr = true → s.cap.latchR.written = true) ∧ (isLdf c.hSr = true → s.cap.latchF.written = true)
  | .xchIsr d =>
    1 ≤ c.mu ∧ c.mu ≤ 6 ∧ (3 ≤ c.mu → isEnd c.hX = true → c.done.toNat < s.cfg.depth d) ∧
    (isBuff c.hX = true → isEnd c.hX = true) ∧
    (c.cb ≠ .none → c.mu = 6 ∧ isEnd c.hX = true) ∧ CallbackOk s d c.cb
  | .ftIsr => c.cb = .none ∧ 1 ≤ c.mu ∧ c.mu ≤ 2

/-- DET_CNT is in 1..ALIGN_CHECK_INTERVAL between scans and 0 inside one (10_state.md R47; 44_alignment.md R190). -/
def DetectorOk (s : State) : Prop :=
  if (match s.isr with | some c => scanning c.cb | none => false) = true then s.detCnt = 0
  else s.detCnt ≠ 0 ∧ s.detCnt.toNat ≤ s.cfg.alignCheckInterval.toNat

/-- Before the boot step no source is enabled and no handler runs (70_reset_and_hazards.md R273). -/
def BootOk (s : State) : Prop :=
  s.poll.booted = false →
    s.cap.ie = 0 ∧ s.rx.ie = false ∧ s.tx.ie = false ∧ s.ft.armed = false ∧ s.isr = none

/-- The invariant of the machine. -/
structure Inv (s : State) : Prop where
  cfg : s.cfg.valid = true
  faults : s.faults = []
  primask : s.primask = false
  ringCount : s.rings.length = s.cfg.rbCount
  rings : ∀ (i : Nat) (r : Ring), s.rings[i]? = some r → RingOk s.cfg.rbN r
  capture : CaptureOk s.cap
  steering : SteeringOk s.cfg s.steer
  rx : ExchangeOk s.cfg.nRx s.rx
  tx : ExchangeOk s.cfg.nTx s.tx
  detector : DetectorOk s
  timer : FrameTimerOk s.cfg s.ft
  realignerCount : s.realigners.length = s.cfg.raCount
  realigners : ∀ (i : Nat) (r : Realigner), s.realigners[i]? = some r → RealignerOk s.cfg r
  isr : ∀ c, s.isr = some c → IsrOk s c
  stage : StageOk s .poll s.poll.stage
  boot : BootOk s

/-- A step is safe: it answers a next state and records no fault. -/
def StepSafe (s : State) : Prop := ∃ t, step s = .next t ∧ t.faults = []

end Sys2Proof.Safety
end

