-- ==== Sys2Proof/Certificates/Slice0/Obligations.lean ====
section
/-! DEFINITION. The statements for the provers: what the numbered rules of spec/ say each operation and the machine do. -/

namespace Sys2Proof.Statements

open Sys2Proof.Machine Sys2Proof.Safety

/-! ## Vocabulary -/

/-- A machine that may step: no model fault recorded, a configuration within 00_scope.md R8. -/
abbrev Live (s : State) : Prop := s.faults = [] ∧ s.cfg.valid = true

/-- The next step of `s` executes operation `i`. -/
def Ran (s : State) (i : Instr) : Prop :=
  ∃ a o, s.currentOp s.nextEvent = some (a, o) ∧ decode o.word = .ok i

/-- The state in which the event just taken is gone from the schedule. -/
def taken (s : State) : State := { s with sched := s.sched.tail, evIdx := s.evIdx + 1 }

/-- `exec` repeated. -/
def repeatExec : Nat → Instr → State → Option State
  | 0, _, s => some s
  | n + 1, i, s =>
    match exec i s with
    | .next t => repeatExec n i t
    | .fault _ => none
    | .refused _ => none

/-- `exec` of a list of operations, one after the other. -/
def chainExec : List Instr → State → Option State
  | [], s => some s
  | i :: is, s =>
    match exec i s with
    | .next t => chainExec is t
    | .fault _ => none
    | .refused _ => none

/-- The words 30_encoding.md R85 and R83 admit under configuration `p`, by their three fields; R87 calls every other word
illegal. -/
def Legal (p : Params) (w : Word) : Prop :=
  let inst : Byte := w.extractLsb' 16 8
  let imm : Half := w.extractLsb' 0 16
  match (w.extractLsb' 24 8).toNat with
  | 0x01 => inst.toNat < p.rbCount ∧ imm = 0
  | 0x02 => inst.toNat < p.rbCount ∧ imm = 0
  | 0x10 => inst = 0 ∧ imm = 0
  | 0x11 => (inst = 0 ∨ inst = 1) ∧ imm = 0
  | 0x12 => inst = 0 ∧ imm = 0
  | 0x13 => inst = 0 ∧ imm = 0
  | 0x20 => inst = 0 ∧ imm = 0
  | 0x30 => inst = 0 ∧ imm = 0
  | 0x31 => (inst = 0 ∨ inst = 1) ∧ imm = 0
  | 0x32 => (inst = 0 ∨ inst = 1) ∧ imm = 0
  | 0x40 => inst = 0 ∧ imm = 0
  | 0x50 => inst = 0 ∧ (imm = 1 ∨ imm = 2)
  | 0x51 => inst = 0 ∧ imm = 0
  | 0x52 => inst = 0 ∧ imm = 0
  | 0x60 => inst.toNat < p.raCount
  | 0x61 => inst.toNat < p.raCount ∧ imm = 0
  | 0x70 => inst = 0 ∧ imm = 0
  | _ => False

/-- A context as an agent. -/
def NamedSide (a : Agent) (side : Option Ctx) : Prop :=
  (a = .poll ∧ side = some .poll) ∨ (a = .isr ∧ side = some .isr)

/-- The agent column of 30_encoding.md R85. -/
def NamedAgent (p : Params) (a : Agent) : Instr → Prop
  | .rbPut i => NamedSide a p.rbProducer[i.toNat]?
  | .rbGet i => NamedSide a p.rbConsumer[i.toNat]?
  | .capCntTick => a = .hw .capcnt
  | .capEdge _ => a = .hw .capcnt
  | .capIsr => a = .isr
  | .capPoll => a = .poll
  | .steerPulse => a = .poll
  | .xchStart => a = .poll
  | .dmaWord .rx => a = .hw .dmaRx
  | .dmaWord .tx => a = .hw .dmaTx
  | .xchIsr _ => a = .isr
  | .alignStep => a = .isr
  | .phaseRequest _ => a = .isr ∨ a = .poll
  | .ftTick => a = .hw .ftimer
  | .ftIsr => a = .isr
  | .raSetAlignment i _ => NamedSide a p.raOwner[i.toNat]?
  | .raRealignFrame i => NamedSide a p.raOwner[i.toNat]?
  | .statsSnapshot => a = .poll

/-- An operation on a ring or a realigner instance (30_encoding.md R83). -/
def OnInstance (i : Instr) : Prop :=
  ∃ n m, i = .rbPut n ∨ i = .rbGet n ∨ i = .raSetAlignment n m ∨ i = .raRealignFrame n

/-- The issuing agent acts for the declared side of an instance, a ring's producer or consumer or a realigner's owner; the interrupt
context does so from an external receive callback (43_frame_exchange.md R176, R177; log entry 12). -/
def ActsFor (s : State) (side : Option Ctx) : Prop :=
  (s.agent = .poll ∧ side = some .poll) ∨
  (s.agent = .isr ∧ side = some .isr ∧ ∃ c st, s.isr = some c ∧ c.handler = .xchIsr .rx ∧ c.cb = .external st)

/-- The pending column of 60_exceptions.md R248. -/
def Pending (s : State) : Handler → Prop
  | .capIsr => s.cap.sr &&& s.cap.ie ≠ 0
  | .xchIsr .rx => s.rx.ie = true ∧ s.rx.sr ≠ 0
  | .xchIsr .tx => s.tx.ie = true ∧ s.tx.sr ≠ 0
  | .ftIsr => s.ft.armed = true ∧ s.ft.matched = true

/-- Handler `h` of the interrupt context is active outside any callback, before its micro-step `mu`, and steps now. -/
abbrev InHandler (s : State) (c : IsrCtx) (h : Handler) (mu : Nat) : Prop :=
  s.agent = .isr ∧ s.isr = some c ∧ c.handler = h ∧ c.cb = .none ∧ c.mu = mu

/-- ALIGN_STEP runs as the receive callback and is at `cb`. -/
abbrev InAlign (s : State) (c : IsrCtx) (cb : Callback) : Prop :=
  s.agent = .isr ∧ s.isr = some c ∧ c.handler = .xchIsr .rx ∧ c.cb = cb

/-- POLL issues STEER_PULSE, the gate of 42_steering.md R141 admits the tick on port B. -/
abbrev GateOpen (s : State) : Prop :=
  s.agent = .poll ∧ s.cfg.gateMin ≤ (s.portB - s.steer.lastTick).toNat ∧
    (s.portB - s.steer.lastTick).toNat ≤ s.cfg.gateMax

/-- The offset of 42_steering.md R142 for the timestamp on port A. -/
def offset (s : State) : Int := (s.portA.word - s.steer.lastRef - s.cfg.nominalInterval).toInt

/-- An exact integer stored into an `i32` register (42_steering.md R160). -/
def stored (v : Int) : Word := BitVec.ofInt 32 v

/-- `clamp(v, 0, DAC_MAX)` (42_steering.md R154). -/
def clampDac (p : Params) (v : Int) : Int := min (max v 0) p.dacMax

/-- The DAC word of 42_steering.md R158: shifted right, at most 4095. -/
def dacOutput (p : Params) (v : Word) : BitVec 12 := BitVec.ofNat 12 (min (v.toNat >>> p.dacShift) 4095)

/-- A pulse that leaves the steering registers at `st` and writes no DAC word: its result is delivered at once. -/
def quietPulse (s : State) (st : Steering) (r : Result) : State := { s with steer := st }.complete r

/-- A pulse that leaves the steering registers at `st`, drives the DAC with `v` and holds POLL with the result `r` until the
sink accepts (42_steering.md R158; 60_exceptions.md R258). -/
def drivenPulse (s : State) (st : Steering) (v : Word) (r : Result) : State :=
  { s with
    steer := { st with dacValue := Reg.of v, dacOut := Reg.of (dacOutput s.cfg v) }
    poll := { s.poll with hold := some { result := r, accepted := false } }
    obs := .dacSet s.cfg.dacChannel (dacOutput s.cfg v) :: s.obs }

/-- The steering registers with the gate's and the snapped reference's writes (42_steering.md R141, R143). -/
def snapped (s : State) : Steering := { s.steer with lastTick := s.portB, lastRef := s.portA.word }

/-- The descriptor a DMA engine works on: slot, position and the next descriptor beside it; `none` where both are exhausted
(43_frame_exchange.md R171). -/
def transfer (e : Exchange) : Option (Byte × Byte × DmaNxt) :=
  if e.dmaCur.valid = true then some (e.dmaCur.slot, e.dmaCur.pos, e.dmaNxt)
  else if e.dmaNxt.valid = true then some (e.dmaNxt.slot, 0, { e.dmaNxt with valid := false })
  else none

/-- The engine after the word at `pos` of `slot` has moved (43_frame_exchange.md R171). -/
def transferred (e : Exchange) (slot pos : Byte) (nxt : DmaNxt) : Exchange :=
  if pos + 1 = 16 then
    if nxt.valid = true then
      { e with
        sr := e.sr ||| 0b01
        dmaCur := { valid := true, slot := nxt.slot, pos := 0 }
        dmaNxt := { nxt with valid := false } }
    else { e with sr := e.sr ||| 0b11, dmaCur := { valid := false, slot := slot, pos := 16 }, dmaNxt := nxt }
  else { e with dmaCur := { valid := true, slot := slot, pos := pos + 1 }, dmaNxt := nxt }

/-- Two slots outstanding: the invariant of 43_frame_exchange.md R175 for a ring of depth `n`. -/
def Outstanding (n : Nat) (e : Exchange) : Prop :=
  e.cur.toNat < n ∧ e.dmaCur.valid = true ∧ e.dmaNxt.valid = true ∧ e.dmaCur.slot = e.cur ∧
    e.dmaNxt.slot.toNat = (e.cur.toNat + 1) % n

/-- Slot `k` of the receive ring passes 44_alignment.md R191. -/
def SlotGood (s : State) (k : Nat) : Prop :=
  ∃ w0 w8, Memory.readWord s.cfg.nRx s.rx.slots k 0 = .ok w0 ∧ Memory.readWord s.cfg.nRx s.rx.slots k 8 = .ok w8 ∧
    w0.extractLsb' 25 7 = s.cfg.fasPattern ∧ w8.extractLsb' 30 2 = s.cfg.nfasPattern

/-- The trace result of XCH_ISR(d) whose μ1 read `h` (43_frame_exchange.md R174). -/
def xchTrace (d : Dir) (h : BitVec 2) : Result :=
  if h.getLsbD 1 = true then (if d = .rx then .ringOverrun else .ringUnderrun) else .ok .unit

/-- `NOMINAL_TOP + delta(p)` (45_phase_adjust.md R203). -/
def topFor (nominal : Half) : BitVec 2 → Half
  | 1 => nominal + 1
  | 2 => nominal - 1
  | _ => nominal

/-- The number of frame-syncs the environment has seen. -/
def syncs (obs : List Obs) : Nat := (obs.filter (fun o => decide (o = .frameSync))).length

/-- `n` bit-clock ticks of FTIMER. -/
def ftTicks (n : Nat) : List Event :=
  List.replicate n (.hw .ftimer { word := 0x51000000, a := { elem := 0, word := 0, frame := Vector.replicate 32 0 }, b := 0 })

/-- One run of FT_ISR: its dispatch and its two micro-steps. -/
def ftHandler : List Event := [.dispatch .ftIsr, .isr, .isr]

/-- The bits of a byte stream, the earlier bit being the more significant (20_memory.md R64). -/
def bitsOf (bytes : List Byte) : List Bool :=
  bytes.flatMap (fun b => (List.range 8).map (fun k => b.getLsbD (7 - k)))

/-- RA_REALIGN_FRAME on one frame after the other: the outputs on the result port and the state after. -/
def realignAll (i : BitVec 8) : List (Vector Byte 32) → State → Option (List (List Byte) × State)
  | [], s => some ([], s)
  | fr :: frs, s =>
    match exec (.raRealignFrame i) { s with portA := { s.portA with frame := fr } } with
    | .next t =>
      match t.obs with
      | .result _ (.ok (.frame out)) :: _ => (realignAll i frs t).map (fun o => (out :: o.1, o.2))
      | _ => none
    | .fault _ => none
    | .refused _ => none

/-- The pending epoch: OVC with the overflows counted by the hardware and not yet applied to it, in CAP_SR or in the
status an active CAP_ISR has read (41_capture.md R122, R125). -/
def pendingEpoch (s : State) : Half :=
  s.cap.ovc + (if s.cap.sr.getLsbD 0 = true then 1 else 0) +
    (match s.isr with
     | some c => if c.handler = .capIsr ∧ 2 ≤ c.mu ∧ c.mu ≤ 5 ∧ c.hSr.getLsbD 0 = true then 1 else 0
     | none => 0)

/-- The true count modulo 2^32 (41_capture.md R125): the pending epoch above the counter. -/
def trueCount (s : State) : Word := (pendingEpoch s ++ s.cap.cnt : BitVec (16 + 16))

/-- The timestamp CAP_ISR μ5 gives an edge latched at `x`: epoch `e`, or the one after it where OVF was read and
`x <= tv` (41_capture.md R122, R124). -/
def extended (hSr : BitVec 3) (e tv x : Half) : Word :=
  ((if hSr.getLsbD 0 = true ∧ x.toNat ≤ tv.toNat then e + 1 else e) ++ x : BitVec (16 + 16))

end Sys2Proof.Statements

open Sys2Proof Sys2Proof.Machine Sys2Proof.Safety Sys2Proof.Statements

/-! ## Encoding (30_encoding.md) -/

/-- R81, R83–R85: the decoder reads every operation back from its word, every field at every value. -/
def Obligations.DecodeEncode : Prop :=
  ∀ i : Instr, decode (encode i) = .ok i

/-- R80, R81, R87: a word the decoder accepts is the word of the operation it names, so no bit of it is ignored. -/
def Obligations.EncodeDecode : Prop :=
  ∀ (w : Word) (i : Instr), decode w = .ok i → encode i = w

/-- R90's example words, and words of every family written from R85, decode to the operations they stand for. -/
def Obligations.DecodeVectors : Prop :=
  decode 0x01000000 = .ok (.rbPut 0) ∧ decode 0x02FF0000 = .ok (.rbGet 255) ∧
  decode 0x11010000 = .ok (.capEdge .falling) ∧ decode 0x20000000 = .ok .steerPulse ∧
  decode 0x31010000 = .ok (.dmaWord .tx) ∧ decode 0x40000000 = .ok .alignStep ∧
  decode 0x50000002 = .ok (.phaseRequest .decrease) ∧ decode 0x6001012C = .ok (.raSetAlignment 1 300) ∧
  decode 0x70000000 = .ok .statsSnapshot

/-- R87: a word outside R85 and R83 spells no operation: whoever issues it, it sets REFUSED and nothing else, and the issuer
goes on; a word inside names a well-formed operation. That a refused word is passed over: log entry 9. -/
def Obligations.IllegalWordRefused : Prop :=
  ∀ (s : State) (w : Word),
    (¬ Legal s.cfg w → (∀ i, decode w = .ok i → i.wellFormed s.cfg = false) ∧
      runWord w s = .next { s with refused := true }.advance) ∧
    (Legal s.cfg w → ∃ i, decode w = .ok i ∧ i.wellFormed s.cfg = true ∧ runWord w s = exec i s)

/-- R89: an operation issued by another agent than R85 names is refused, whatever the state; and so is an operation on a ring or a
realigner that the interrupt context issues anywhere but in an external receive callback, in the transmit callback above all, which
"writes nothing else of the block" (43_frame_exchange.md R177; log entry 12). That an operation on an instance whose side is not
declared is refused from every agent: log entry 21. That a refused word is passed over: log entry 9. -/
def Obligations.WrongAgentRefused : Prop :=
  (∀ (i : Instr) (s : State), ¬ NamedAgent s.cfg s.agent i → exec i s = .next { s with refused := true }.advance) ∧
  (∀ (s : State) (i : Instr), s.agent = .isr → OnInstance i →
    (∀ c, s.isr = some c → c.handler ≠ .xchIsr .rx ∨ ∀ st, c.cb ≠ .external st) →
    exec i s = .next { s with refused := true }.advance)

/-- R86, 60_exceptions.md R252 (3): in the interrupt context a handler's word is refused unless that handler is active and
in none of its callbacks; ALIGN_STEP's unless the receive callback is at one of its steps; PHASE_REQUEST's unless
ALIGN_STEP is at its request. Log entries 11, 12. That a refused word is passed over: log entry 9. -/
def Obligations.HandlerWordsElsewhereRefused : Prop :=
  ∀ s : State, s.agent = .isr →
    (∀ h, (∀ c, s.isr = some c → c.handler ≠ h ∨ c.cb ≠ .none) →
      exec (handlerInstr h) s = .next { s with refused := true }.advance) ∧
    ((∀ c, s.isr = some c → c.handler ≠ .xchIsr .rx ∨ c.cb = .none ∨ c.cb = .alignRequest ∨ ∃ st, c.cb = .external st) →
      exec .alignStep s = .next { s with refused := true }.advance) ∧
    (∀ dir, (∀ c, s.isr = some c → c.cb ≠ .alignRequest) →
      exec (.phaseRequest dir) s = .next { s with refused := true }.advance)

/-! ## Steps, contexts, dispatch (60_exceptions.md, 70_reset_and_hazards.md) -/

/-- R252, 30_encoding.md R82: where the scheduled agent presents a word that decodes to `i`, the step is `exec i` with that
agent issuing and its operands on the ports; the event is gone from the schedule. The schedule
is a list of the state (log entry 6). -/
def Obligations.StepRunsDecodedInstr : Prop :=
  ∀ (s : State) (a : Agent) (o : IssuedOp) (i : Instr), Live s →
    s.currentOp s.nextEvent = some (a, o) → decode o.word = .ok i →
    step s = exec i { taken s with agent := a, portA := o.a, portB := o.b }

/-- R252 (2), (3), 30_encoding.md R86: which word an agent presents: a hardware agent the scheduled one; POLL the next word
of its program, only while no handler is active and no DAC hold is in force; the interrupt context the word of the active
handler, of ALIGN_STEP, of ALIGN_STEP's request, or what the external callback issues. The lists
they come from are the model's (log entries 6, 11, 12). -/
def Obligations.AgentPresentsOperation : Prop :=
  (∀ (s : State) (a : HwAgent) (o : IssuedOp), s.currentOp (.hw a o) = some (.hw a, o)) ∧
  (∀ (s : State) (o : IssuedOp) (rest : List IssuedOp),
    s.isr = none → s.poll.hold = none → s.poll.booted = true → s.poll.prog = o :: rest →
    s.currentOp .poll = some (.poll, o)) ∧
  (∀ s : State, (s.isr ≠ none ∨ s.poll.hold ≠ none) → s.currentOp .poll = none) ∧
  (∀ (s : State) (c : IsrCtx), s.isr = some c → c.cb = .none →
    s.currentOp .isr = some (.isr, { word := encode (handlerInstr c.handler), a := s.portA, b := s.portB })) ∧
  (∀ (s : State) (c : IsrCtx), s.isr = some c → scanning c.cb = true ∧ c.cb ≠ .alignRequest ∨ c.cb = .alignEntry →
    s.currentOp .isr = some (.isr, { word := 0x40000000, a := s.portA, b := s.portB })) ∧
  (∀ (s : State) (c : IsrCtx), s.isr = some c → c.cb = .alignRequest →
    s.currentOp .isr = some (.isr, { word := 0x50000001, a := s.portA, b := s.portB })) ∧
  (∀ (s : State) (c : IsrCtx) (st : RbStage) (o : IssuedOp), s.isr = some c → c.cb = .external st →
    s.nextCbItem = .op o → s.currentOp .isr = some (.isr, o))

/-- 70_reset_and_hazards.md R280: POLL's first step sets CAP_IE and FT_TOP and nothing else of the block. The
schedule is the model's (log entry 6). -/
def Obligations.BootStep : Prop :=
  ∀ s : State, Live s → s.nextEvent = .poll → s.isr = none → s.poll.hold = none → s.poll.booted = false →
    step s = .next { taken s with
      cap := { s.cap with ie := 0b111 }
      ft := { s.ft with top := s.cfg.nominalTop }
      poll := { s.poll with booted := true } }

/-- R248–R251: a dispatch step makes the chosen source's handler active at micro-step 1, where no handler is active, PRIMASK
is 0 and the source is pending; it saves nothing and changes nothing else; elsewhere it is no step. That the event then passes
is the model's choice (log entry 7). -/
def Obligations.DispatchStep : Prop :=
  ∀ (s : State) (h : Handler), Live s → s.nextEvent = .dispatch h →
    (s.isr = none ∧ s.primask = false ∧ Pending s h → step s = .next { taken s with isr := some (IsrCtx.enter h) }) ∧
    (¬ (s.isr = none ∧ s.primask = false ∧ Pending s h) → step s = .next (taken s))

/-- R250–R253: over every step, a handler becomes active only by the dispatch of its pending source with PRIMASK 0; while one
is active no other starts, and only steps of the interrupt context move or end it. -/
def Obligations.HandlersStartOnlyByDispatch : Prop :=
  ∀ s t : State, step s = .next t →
    (s.isr = none → ∀ c, t.isr = some c →
      ∃ h, s.nextEvent = .dispatch h ∧ s.primask = false ∧ Pending s h ∧ c = IsrCtx.enter h) ∧
    (∀ c, s.isr = some c → t.isr = none ∨ ∃ c', t.isr = some c' ∧ c'.handler = c.handler) ∧
    (∀ c, s.isr = some c → s.nextEvent ≠ .isr → t.isr = some c)

/-- R251, R252 (2), R258: while a handler is active, or a DAC hold the sink has not accepted is in force, no step changes the
control point of POLL, but that ENV's signal marks the hold accepted (log entry 22). -/
def Obligations.PollWaits : Prop :=
  ∀ s t : State, step s = .next t → (s.isr ≠ none ∨ ∃ h, s.poll.hold = some h ∧ h.accepted = false) →
    t.poll = s.poll ∨
    (s.nextEvent = .dacReady ∧ ∃ h, s.poll.hold = some h ∧
      t.poll = { s.poll with hold := some { h with accepted := true } })

/-- R252 (5), R258: ENV's signal marks the hold accepted, at any point, and changes nothing else; without a hold it passes. POLL
then takes no step while a handler is active or the sink has not accepted; its next step delivers the withheld result and makes
the next operation next. Log entries 7, 13, 22. -/
def Obligations.DacAcceptance : Prop :=
  (∀ (s : State) (h : DacHold), Live s → s.nextEvent = .dacReady → s.poll.hold = some h →
    step s = .next { taken s with poll := { s.poll with hold := some { h with accepted := true } } }) ∧
  (∀ s : State, Live s → s.nextEvent = .dacReady → s.poll.hold = none → step s = .next (taken s)) ∧
  (∀ (s : State) (h : DacHold), Live s → s.nextEvent = .poll → s.poll.hold = some h →
    (s.isr ≠ none ∨ h.accepted = false → step s = .next (taken s)) ∧
    (s.isr = none → h.accepted = true → step s = .next { taken s with
      agent := .poll
      obs := .result .poll h.result :: s.obs
      poll := { s.poll with hold := none, prog := s.poll.prog.tail, index := s.poll.index + 1, stage := .start } }))

/-- R241, R247, R251 and 10_state.md R20: how the issuing context goes on. POLL's index advances by 1; an external callback
passes to its next item; a handler and a hardware agent have no list. A completed operation adds its result. Log entries 9, 12, 13. -/
def Obligations.ContextGoesOn : Prop :=
  (∀ s : State, s.agent = .poll → s.advance =
    { s with poll := { s.poll with prog := s.poll.prog.tail, index := s.poll.index + 1, stage := .start } }) ∧
  (∀ (s : State) (a : HwAgent), s.agent = .hw a → s.advance = s) ∧
  (∀ s : State, s.agent = .isr → (∀ c st, s.isr = some c → c.cb ≠ .external st) → s.advance = s) ∧
  (∀ (s : State) (c : IsrCtx) (st : RbStage), s.agent = .isr → s.isr = some c → c.cb = .external st → s.advance =
    { s with isr := some { c with cb := .external .start }, cbItems := s.cbItems.tail, cbIdx := s.cbIdx + 1 }) ∧
  (∀ (s : State) (st : RbStage), s.agent = .poll → s.setStage st = { s with poll := { s.poll with stage := st } }) ∧
  (∀ (s : State) (c : IsrCtx) (st st' : RbStage), s.agent = .isr → s.isr = some c → c.cb = .external st →
    s.setStage st' = { s with isr := some { c with cb := .external st' } }) ∧
  (∀ (s : State) (r : Result), s.complete r = { s with obs := .result s.agent r :: s.obs }.advance)

/-! ## Invariants and whole-machine rules -/

/-- The invariant holds right after reset. The configuration is
log entry 1's. -/
def Obligations.ResetInv : Prop := Safety.Inv State.reset

/-- 70_reset_and_hazards.md R281: the invariant holds right after reset under every configuration within 00_scope.md R8. -/
def Obligations.ResetInvAnyConfig : Prop :=
  ∀ p : Params, p.valid = true → Safety.Inv (State.resetWith p)

/-- Every step of every agent, on every schedule, program and callback, keeps the invariant: memories keep their form, cursors,
slots and descriptors stay in range, ST_STATE and PA_PEND stay legal, FT_TOP stays nominal or one off while armed, what a
flag promises readable stays readable, what a waiting micro-step has read stays true. -/
def Obligations.StepKeepsInv : Prop :=
  ∀ s t : State, Safety.Inv s → step s = .next t → Safety.Inv t

/-- R246: from a state of the invariant a step answers a next state and reaches no model fault. How a fault is recorded: log
entry 8. -/
def Obligations.InvMakesStepSafe : Prop :=
  ∀ s : State, Safety.Inv s → StepSafe s

/-- 10_state.md R57: no operation and no step of any agent on any event clears a fault from FAULTS or REFUSED; reset leaves them
empty and 0. Said over `exec` and `stepEvent`, the step of an event, because `step` itself answers no next state after a fault. -/
def Obligations.MarksNeverCleared : Prop :=
  (∀ (i : Instr) (s t : State), exec i s = .next t →
    (∀ r, r ∈ s.faults → r ∈ t.faults) ∧ (s.refused = true → t.refused = true)) ∧
  (∀ (e : Event) (s t : State), stepEvent e s = .next t →
    (∀ r, r ∈ s.faults → r ∈ t.faults) ∧ (s.refused = true → t.refused = true)) ∧
  (∀ s t : State, step s = .next t → s.refused = true → t.refused = true) ∧
  (∀ p : Params, (State.resetWith p).faults = [] ∧ (State.resetWith p).refused = false)

/-- 70_reset_and_hazards.md R270: what reset leaves, under every configuration; "no value" is the written mark at false. -/
def Obligations.ResetValues : Prop :=
  ∀ p : Params, ∃ s, s = State.resetWith p ∧
    s.rings.length = p.rbCount ∧
    (∀ r ∈ s.rings, r.wr = 0 ∧ r.rd = 0 ∧ r.buf.length = p.rbN + 1 ∧ ∀ c ∈ r.buf, c.written = false) ∧
    s.cap.sr = 0 ∧ s.cap.ie = 0 ∧ s.cap.ovc = 0 ∧ s.cap.fresh = 0 ∧ s.cap.latchR.written = false ∧
    s.cap.latchF.written = false ∧ s.cap.tsR.written = false ∧ s.cap.tsF.written = false ∧
    s.steer.state = 0 ∧ s.steer.count = p.initDiscard ∧ s.steer.flags = 0 ∧ s.steer.lastRef = 0 ∧ s.steer.lastTick = 0 ∧
    s.steer.dacValue.written = false ∧ s.steer.dacCenter.written = false ∧ s.steer.slope.written = false ∧
    s.steer.minOffset.written = false ∧ s.steer.maxOffset.written = false ∧ s.steer.dacOut.written = false ∧
    (∀ d, (s.xch d).cur = 0 ∧ (s.xch d).last = 0xFF ∧ (s.xch d).dmaCur = { valid := false, slot := 0, pos := 0 } ∧
      (s.xch d).dmaNxt = { valid := false, slot := 0 } ∧ (s.xch d).sr = 0 ∧ (s.xch d).ie = false ∧ (s.xch d).errcnt = 0 ∧
      Memory.wf (p.depth d) (s.xch d).slots = true) ∧
    s.detCnt = p.alignCheckInterval ∧ s.ft.pend = 0 ∧ s.ft.armed = false ∧ s.ft.top = p.nominalTop ∧ s.ft.cnt = 0 ∧
    s.ft.matched = false ∧ s.realigners.length = p.raCount ∧
    (∀ r ∈ s.realigners, r.offset = 0 ∧ r.carry = 0 ∧ r.reframe = List.replicate p.f 0) ∧
    s.primask = false ∧ s.isr = none ∧ s.stats = { desync := 0, phaseBusy := 0, ppsLoss := 0, calFail := 0 } ∧
    s.faults = [] ∧ s.refused = false

/-- 42_steering.md R149: over every step SLOPE changes only where a STEER_PULSE ends a calibration, DAC_CENTER only there and in
a STEER_PULSE of a discipline state; a gate refusal and every return to Init leave both. -/
def Obligations.SlopePersists : Prop :=
  ∀ s t : State, step s = .next t →
    (t.steer.slope ≠ s.steer.slope → Ran s .steerPulse ∧ s.steer.state = 2 ∧ t.steer.state = 3) ∧
    (t.steer.dacCenter ≠ s.steer.dacCenter → Ran s .steerPulse ∧
      (s.steer.state = 2 ∧ t.steer.state = 3 ∨ s.steer.state = 3 ∨ s.steer.state = 4)) ∧
    (t.stats.ppsLoss ≠ s.stats.ppsLoss ∨ t.steer.state = 0 →
      t.steer.slope = s.steer.slope ∧ t.steer.dacCenter = s.steer.dacCenter)

/-- 42_steering.md R161: over every step the steering registers change only where STEER_PULSE runs, and ST_STATE goes only
along the edges of R140, R157: to Init from anywhere, Init to CalibrateMin or FreqDiscipline, CalibrateMin to CalibrateMax,
CalibrateMax to FreqDiscipline, FreqDiscipline and PhaseDiscipline to each other. CAL_ERR, once set, stays (R151). -/
def Obligations.SteeringTransitions : Prop :=
  ∀ s t : State, step s = .next t →
    (t.steer ≠ s.steer → Ran s .steerPulse) ∧
    (s.steer.flags.getLsbD 1 = true → t.steer.flags.getLsbD 1 = true) ∧
    (t.steer.state = s.steer.state ∨ t.steer.state = 0 ∨
      (s.steer.state = 0 ∧ (t.steer.state = 1 ∨ t.steer.state = 3)) ∨
      (s.steer.state = 1 ∧ t.steer.state = 2) ∨ (s.steer.state = 2 ∧ t.steer.state = 3) ∨
      (s.steer.state = 3 ∧ t.steer.state = 4) ∨ (s.steer.state = 4 ∧ t.steer.state = 3))

/-- 41_capture.md R130: FT_TICK and FT_ISR neither read nor write capture state, CAP_CNT_TICK neither reads nor writes
frame-timer state: with the other unit's state replaced, the same happens and the replaced state stays. -/
def Obligations.TimerIndependence : Prop :=
  ∀ (s t : State) (c : Capture) (f : FrameTimer),
    (exec .ftTick s = .next t → t.cap = s.cap ∧ exec .ftTick { s with cap := c } = .next { t with cap := c }) ∧
    (exec .ftIsr s = .next t → t.cap = s.cap ∧ exec .ftIsr { s with cap := c } = .next { t with cap := c }) ∧
    (exec .capCntTick s = .next t → t.ft = s.ft ∧ exec .capCntTick { s with ft := f } = .next { t with ft := f })

/-- 10_state.md R22–R53 ("Written only by …") over every step: each unit's state changes only where one of its writers runs;
the boot step writes CAP_IE and FT_TOP; RXS is stored to only by the receive engine, TXS only by the transmit callback; the
statistics by the operations that count (R55, R46). PRIMASK is left as it was or 0 (R54), the interrupt context is moved by its own
steps and by dispatch (R56), and nothing writes the configuration (log entry 1). -/
def Obligations.UnitsHaveTheirWriters : Prop :=
  ∀ s t : State, step s = .next t →
    (t.rings ≠ s.rings → ∃ i, Ran s (.rbPut i) ∨ Ran s (.rbGet i)) ∧
    (t.cap.cnt ≠ s.cap.cnt → Ran s .capCntTick) ∧
    (t.cap.sr ≠ s.cap.sr → Ran s .capCntTick ∨ (∃ kind, Ran s (.capEdge kind)) ∨ Ran s .capIsr) ∧
    (t.cap.latchR ≠ s.cap.latchR → Ran s (.capEdge .rising)) ∧
    (t.cap.latchF ≠ s.cap.latchF → Ran s (.capEdge .falling)) ∧
    (t.cap.ie ≠ s.cap.ie → s.poll.booted = false ∧ t.poll.booted = true) ∧
    ((t.cap.ovc ≠ s.cap.ovc ∨ t.cap.tsR ≠ s.cap.tsR ∨ t.cap.tsF ≠ s.cap.tsF) → Ran s .capIsr) ∧
    (t.cap.fresh ≠ s.cap.fresh → Ran s .capIsr ∨ Ran s .capPoll) ∧
    (t.rx.slots ≠ s.rx.slots → Ran s (.dmaWord .rx)) ∧
    (t.tx.slots ≠ s.tx.slots → s.nextEvent = .isr ∧ ∃ c w v, s.isr = some c ∧ c.handler = .xchIsr .tx ∧ c.cb ≠ .none ∧
      s.nextCbItem = .fill w v) ∧
    (t.steer ≠ s.steer → Ran s .steerPulse) ∧
    (∀ d, (t.xch d).cur ≠ (s.xch d).cur ∨ (t.xch d).last ≠ (s.xch d).last → Ran s (.xchIsr d) ∨ Ran s .xchStart) ∧
    (∀ d, (t.xch d).dmaCur ≠ (s.xch d).dmaCur ∨ (t.xch d).dmaNxt ≠ (s.xch d).dmaNxt ∨ (t.xch d).sr ≠ (s.xch d).sr →
      Ran s (.dmaWord d) ∨ Ran s (.xchIsr d) ∨ Ran s .xchStart) ∧
    (∀ d, (t.xch d).errcnt ≠ (s.xch d).errcnt → Ran s (.xchIsr d)) ∧
    (∀ d, (t.xch d).ie ≠ (s.xch d).ie → Ran s .xchStart) ∧
    (t.detCnt ≠ s.detCnt → Ran s .alignStep) ∧
    (t.ft.cnt ≠ s.ft.cnt → Ran s .ftTick) ∧
    (t.ft.top ≠ s.ft.top → Ran s .ftIsr ∨ (s.poll.booted = false ∧ t.poll.booted = true)) ∧
    (t.ft.pend ≠ s.ft.pend ∨ t.ft.armed ≠ s.ft.armed → Ran s .ftIsr ∨ ∃ dir, Ran s (.phaseRequest dir)) ∧
    (t.ft.matched ≠ s.ft.matched → Ran s .ftTick ∨ Ran s .ftIsr ∨ ∃ dir, Ran s (.phaseRequest dir)) ∧
    (t.realigners ≠ s.realigners → ∃ i, (∃ n, Ran s (.raSetAlignment i n)) ∨ Ran s (.raRealignFrame i)) ∧
    (t.stats.desync ≠ s.stats.desync ∨ t.stats.phaseBusy ≠ s.stats.phaseBusy → Ran s .alignStep) ∧
    (t.stats.ppsLoss ≠ s.stats.ppsLoss ∨ t.stats.calFail ≠ s.stats.calFail → Ran s .steerPulse) ∧
    (t.primask = s.primask ∨ t.primask = false) ∧
    (t.isr ≠ s.isr → s.nextEvent = .isr ∨ ∃ h, s.nextEvent = .dispatch h) ∧
    t.cfg = s.cfg

/-! ## LockFreeRingBuffer (40_ring_buffer.md) -/

/-- R101: the three micro-steps of RB_PUT, and all they change; μ2 is the only store, into slot `w` alone. Log entries
12, 19. -/
def Obligations.RbPutSteps : Prop :=
  ∀ (i : BitVec 8) (s : State) (ring : Ring),
    i.toNat < s.cfg.rbCount → ActsFor s s.cfg.rbProducer[i.toNat]? → s.rings[i.toNat]? = some ring →
    (s.stage = .start → ∃ nw, nw = (ring.wr + 1) % (s.cfg.rbN + 1) ∧
      (nw = ring.rd → exec (.rbPut i) s = .next (s.complete .full)) ∧
      (nw ≠ ring.rd → exec (.rbPut i) s = .next (s.setStage (.putStore i.toNat ring.wr nw)))) ∧
    (∀ w nw, s.stage = .putStore i.toNat w nw → w < ring.buf.length → ∃ ring',
      ring' = { ring with buf := ring.buf.set w (Reg.of (s.portA.elem % 2 ^ s.cfg.rbTW)) } ∧
      exec (.rbPut i) s = .next ({ s with rings := s.rings.set i.toNat ring' }.setStage (.putPublish i.toNat nw)) ∧
      ring'.readSlot w = .ok (s.portA.elem % 2 ^ s.cfg.rbTW) ∧
      ∀ k, k ≠ w → ring'.readSlot k = ring.readSlot k) ∧
    (∀ nw, s.stage = .putPublish i.toNat nw →
      exec (.rbPut i) s =
        .next ({ s with rings := s.rings.set i.toNat { ring with wr := nw } }.complete (.ok .unit)))

/-- R103: the three micro-steps of RB_GET, and all they change; no slot is stored to. Log entry 12. -/
def Obligations.RbGetSteps : Prop :=
  ∀ (i : BitVec 8) (s : State) (ring : Ring),
    i.toNat < s.cfg.rbCount → ActsFor s s.cfg.rbConsumer[i.toNat]? → s.rings[i.toNat]? = some ring →
    (s.stage = .start →
      (ring.rd = ring.wr → exec (.rbGet i) s = .next (s.complete .empty)) ∧
      (ring.rd ≠ ring.wr → exec (.rbGet i) s = .next (s.setStage (.getRead i.toNat ring.rd)))) ∧
    (∀ r v, s.stage = .getRead i.toNat r → ring.readSlot r = .ok v →
      exec (.rbGet i) s = .next (s.setStage (.getPublish i.toNat r v))) ∧
    (∀ r v, s.stage = .getPublish i.toNat r v →
      exec (.rbGet i) s = .next
        ({ s with rings := s.rings.set i.toNat { ring with rd := (r + 1) % (s.cfg.rbN + 1) } }.complete (.ok (.elem v))))

/-- R105: RB_PUT answers Full only where (RB_WR + 1) mod (RB_N + 1) = RB_RD, RB_GET Empty only where RB_WR = RB_RD; of one state, by
whichever contexts, they never report both. -/
def Obligations.FullEmptyExclusive : Prop :=
  (∀ (s t : State) (i : BitVec 8) (a : Agent),
    exec (.rbPut i) { s with agent := a } = .next t → t.obs = .result a .full :: s.obs →
    ∃ r, s.rings[i.toNat]? = some r ∧ (r.wr + 1) % (s.cfg.rbN + 1) = r.rd) ∧
  (∀ (s t : State) (i : BitVec 8) (a : Agent),
    exec (.rbGet i) { s with agent := a } = .next t → t.obs = .result a .empty :: s.obs →
    ∃ r, s.rings[i.toNat]? = some r ∧ r.wr = r.rd) ∧
  (∀ (s t u : State) (i : BitVec 8) (a b : Agent), 1 ≤ s.cfg.rbN →
    exec (.rbPut i) { s with agent := a } = .next t → t.obs = .result a .full :: s.obs →
    exec (.rbGet i) { s with agent := b } = .next u → u.obs ≠ .result b .empty :: s.obs)

/-- R104, R106: a ring is a queue of at most RB_N elements: over every step its elements, oldest first, stay as they are, or
gain at the end the element stored in slot RB_WR by a put that answers Ok, or lose the first one to a get that answers it; each put
that answers Ok adds one and each get that answers Ok takes the one it answers; the slots change only where RB_PUT stores its operand
in slot RB_WR; RB_PUT answers Full only at RB_N elements, RB_GET Empty only at none. -/
def Obligations.RingIsQueue : Prop :=
  ∀ (s t : State) (i : BitVec 8) (r : Ring), Safety.Inv s → step s = .next t → s.rings[i.toNat]? = some r →
    (contents s.cfg.rbN r).length ≤ s.cfg.rbN ∧
    (∃ r', t.rings[i.toNat]? = some r' ∧
      (contents s.cfg.rbN r' = contents s.cfg.rbN r ∨
       (Ran s (.rbPut i) ∧ ∃ a c, r.buf[r.wr]? = some c ∧ c.written = true ∧
         contents s.cfg.rbN r' = contents s.cfg.rbN r ++ [c.val] ∧ t.obs = .result a (.ok .unit) :: s.obs) ∨
       (Ran s (.rbGet i) ∧ ∃ a v, contents s.cfg.rbN r = v :: contents s.cfg.rbN r' ∧
         t.obs = .result a (.ok (.elem v)) :: s.obs))) ∧
    (Ran s (.rbPut i) → ∀ a, t.obs = .result a (.ok .unit) :: s.obs → ∃ r' c, t.rings[i.toNat]? = some r' ∧
      r.buf[r.wr]? = some c ∧ c.written = true ∧ contents s.cfg.rbN r' = contents s.cfg.rbN r ++ [c.val]) ∧
    (Ran s (.rbGet i) → ∀ a v, t.obs = .result a (.ok (.elem v)) :: s.obs → ∃ r', t.rings[i.toNat]? = some r' ∧
      contents s.cfg.rbN r = v :: contents s.cfg.rbN r') ∧
    (∀ r', t.rings[i.toNat]? = some r' → r'.buf ≠ r.buf → ∃ a o, s.currentOp s.nextEvent = some (a, o) ∧
      decode o.word = .ok (.rbPut i) ∧ r' = { r with buf := r.buf.set r.wr (Reg.of (o.a.elem % 2 ^ s.cfg.rbTW)) }) ∧
    (Ran s (.rbPut i) → ∀ a, t.obs = .result a .full :: s.obs → (contents s.cfg.rbN r).length = s.cfg.rbN) ∧
    (Ran s (.rbGet i) → ∀ a, t.obs = .result a .empty :: s.obs → contents s.cfg.rbN r = [])

/-! ## TimestampCapture (41_capture.md) -/

/-- R120: CAP_CNT_TICK counts, with OVF on the wrap, and changes nothing else. -/
def Obligations.CapCntTick : Prop :=
  ∀ s : State, s.agent = .hw .capcnt →
    (s.cap.cnt ≠ 0xFFFF → exec .capCntTick s = .next { s with cap := { s.cap with cnt := s.cap.cnt + 1 } }) ∧
    (s.cap.cnt = 0xFFFF → exec .capCntTick s = .next { s with cap := { s.cap with cnt := 0, sr := s.cap.sr ||| 0b001 } })

/-- R121: CAP_EDGE latches the counter of its kind and sets the load flag, and changes nothing else. -/
def Obligations.CapEdge : Prop :=
  ∀ s : State, s.agent = .hw .capcnt →
    exec (.capEdge .rising) s =
      .next { s with cap := { s.cap with latchR := Reg.of s.cap.cnt, sr := s.cap.sr ||| 0b010 } } ∧
    exec (.capEdge .falling) s =
      .next { s with cap := { s.cap with latchF := Reg.of s.cap.cnt, sr := s.cap.sr ||| 0b100 } }

/-- R122–R124, R129: the five micro-steps of CAP_ISR, and all they change. -/
def Obligations.CapIsrSteps : Prop :=
  ∀ (s : State) (c : IsrCtx),
    (InHandler s c .capIsr 1 → exec .capIsr s =
      .next { s with cap := { s.cap with sr := 0 }, isr := some { c with mu := 2, hSr := s.cap.sr } }) ∧
    (InHandler s c .capIsr 2 → exec .capIsr s = .next { s with isr := some { c with mu := 3, hTv := s.cap.cnt } }) ∧
    (InHandler s c .capIsr 3 →
      (c.hSr.getLsbD 1 = true → s.cap.latchR.written = true →
        exec .capIsr s = .next { s with isr := some { c with mu := 4, hRa := s.cap.latchR.val } }) ∧
      (c.hSr.getLsbD 1 = false → exec .capIsr s = .next { s with isr := some { c with mu := 4 } })) ∧
    (InHandler s c .capIsr 4 →
      (c.hSr.getLsbD 2 = true → s.cap.latchF.written = true →
        exec .capIsr s = .next { s with isr := some { c with mu := 5, hRb := s.cap.latchF.val } }) ∧
      (c.hSr.getLsbD 2 = false → exec .capIsr s = .next { s with isr := some { c with mu := 5 } })) ∧
    (InHandler s c .capIsr 5 → exec .capIsr s =
      .next { s with
        cap := { s.cap with
          tsR := if c.hSr.getLsbD 1 = true then Reg.of (extended c.hSr s.cap.ovc c.hTv c.hRa) else s.cap.tsR
          tsF := if c.hSr.getLsbD 2 = true then Reg.of (extended c.hSr s.cap.ovc c.hTv c.hRb) else s.cap.tsF
          fresh := s.cap.fresh ||| (if c.hSr.getLsbD 1 = true then 0b01 else 0) |||
            (if c.hSr.getLsbD 2 = true then 0b10 else 0)
          ovc := if c.hSr.getLsbD 0 = true then s.cap.ovc + 1 else s.cap.ovc }
        isr := none
        obs := .trace .capIsr (.ok .unit) :: s.obs })

/-- R125's invariant over every step: the true count goes up by one at a tick of the counter that loses no overflow (P1), and
stays at every other step, through every micro-step of CAP_ISR. The overflow a
handler has read and not yet applied counts as pending (log entry 20). -/
def Obligations.TrueCountAdvances : Prop :=
  ∀ s t : State, Safety.Inv s → step s = .next t →
    (∀ o, s.nextEvent = .hw .capcnt o → decode o.word = .ok .capCntTick →
      ¬ (s.cap.cnt = 0xFFFF ∧ s.cap.sr.getLsbD 0 = true) → trueCount t = trueCount s + 1) ∧
    ((∀ o, s.nextEvent = .hw .capcnt o → decode o.word ≠ .ok .capCntTick) → trueCount t = trueCount s)

/-- R125: the timestamp CAP_ISR μ5 writes is the edge's true count modulo 2^32, where `e`, `m1`, `m2` are the true counts at
the edge, at μ1 and at μ2: under P1–P3 where an overflow was read, and with the edge in the epoch of μ1 where none was. -/
def Obligations.TimestampExact : Prop :=
  ∀ (s : State) (c : IsrCtx) (e m1 m2 : Nat), InHandler s c .capIsr 5 →
    e ≤ m1 → m1 ≤ m2 → c.hTv = BitVec.ofNat 16 m2 →
    (s.cap.ovc.toNat + (if c.hSr.getLsbD 0 = true then 1 else 0)) % 2 ^ 16 = m1 / 2 ^ 16 % 2 ^ 16 →
    (c.hSr.getLsbD 0 = true → m2 / 2 ^ 16 = m1 / 2 ^ 16 ∧ m2 - e < 2 ^ 16) →
    (c.hSr.getLsbD 0 = false → e / 2 ^ 16 = m1 / 2 ^ 16) →
    ∃ t, exec .capIsr s = .next t ∧
      (c.hSr.getLsbD 1 = true → c.hRa = BitVec.ofNat 16 e → t.cap.tsR = Reg.of (BitVec.ofNat 32 e)) ∧
      (c.hSr.getLsbD 2 = true → c.hRb = BitVec.ofNat 16 e → t.cap.tsF = Reg.of (BitVec.ofNat 32 e))

/-- R126: CAP_POLL answers the timestamps whose NEW flag is set and clears both flags, and changes nothing else of the block. -/
def Obligations.CapPoll : Prop :=
  ∀ s : State, s.agent = .poll → (s.cap.fresh.getLsbD 0 = true → s.cap.tsR.written = true) →
    (s.cap.fresh.getLsbD 1 = true → s.cap.tsF.written = true) →
    exec .capPoll s = .next ({ s with cap := { s.cap with fresh := 0 }, primask := false }.complete
      (.ok (.event (if s.cap.fresh.getLsbD 0 = true then some s.cap.tsR.val else none)
        (if s.cap.fresh.getLsbD 1 = true then some s.cap.tsF.val else none))))

/-! ## OscillatorSteering (42_steering.md) -/

/-- R140, R141, R143: a pulse the gate refuses restarts Init, snaps the reference, keeps the tick and is counted; the result is
LossOfPPS; nothing else changes. -/
def Obligations.PulseRefused : Prop :=
  ∀ s : State, s.agent = .poll →
    ¬ (s.cfg.gateMin ≤ (s.portB - s.steer.lastTick).toNat ∧ (s.portB - s.steer.lastTick).toNat ≤ s.cfg.gateMax) →
    exec .steerPulse s =
      .next ({ s with
        steer := { snapped s with state := 0, count := s.cfg.initDiscard }
        stats := { s.stats with ppsLoss := s.stats.ppsLoss + 1 } }.complete .lossOfPPS)

/-- R144, R157: an accepted pulse in Init counts down and leaves Init on the last one: to FreqDiscipline with a calibration, else
to CalibrateMin with the DAC forced to 0. The countdown is stored modulo
2^32 (log entry 17). -/
def Obligations.InitPulse : Prop :=
  ∀ s : State, GateOpen s → s.steer.state = 0 →
    (s.steer.count ≠ 1 →
      exec .steerPulse s = .next (quietPulse s { snapped s with count := s.steer.count - 1 } (.ok .unit))) ∧
    (s.steer.count = 1 → s.steer.flags.getLsbD 0 = true →
      exec .steerPulse s = .next (quietPulse s { snapped s with state := 3, count := s.cfg.settle } (.ok .unit))) ∧
    (s.steer.count = 1 → s.steer.flags.getLsbD 0 = false →
      exec .steerPulse s = .next (drivenPulse s
        { snapped s with
          state := 1, count := BitVec.ofNat 32 (s.cfg.periods + s.cfg.calSettle), minOffset := Reg.of 0 } 0 (.ok .unit)))

/-- R145, R157: an accepted pulse in CalibrateMin accumulates the offset once ST_COUNT <= PERIODS, counts down, and on the last one
enters CalibrateMax with the DAC forced to DAC_MAX. Values are stored modulo 2^32
(log entry 17). -/
def Obligations.CalMinPulse : Prop :=
  ∀ s : State, GateOpen s → s.steer.state = 1 → s.steer.minOffset.written = true →
    ∃ acc, acc = (if s.steer.count.toNat ≤ s.cfg.periods then stored (s.steer.minOffset.val.toInt + offset s)
        else s.steer.minOffset.val) ∧
      (s.steer.count ≠ 1 →
        exec .steerPulse s =
          .next (quietPulse s { snapped s with minOffset := Reg.of acc, count := s.steer.count - 1 } (.ok .unit))) ∧
      (s.steer.count = 1 →
        exec .steerPulse s = .next (drivenPulse s
          { snapped s with
            minOffset := Reg.of acc, state := 2, count := BitVec.ofNat 32 (s.cfg.periods + s.cfg.calSettle)
            maxOffset := Reg.of 0 } (stored s.cfg.dacMax) (.ok .unit)))

/-- R146: an accepted pulse in CalibrateMax before the last one accumulates as R145 and counts down. -/
def Obligations.CalMaxPulse : Prop :=
  ∀ s : State, GateOpen s → s.steer.state = 2 → s.steer.maxOffset.written = true → s.steer.count ≠ 1 →
    exec .steerPulse s = .next (quietPulse s
      { snapped s with
        maxOffset := Reg.of (if s.steer.count.toNat ≤ s.cfg.periods then stored (s.steer.maxOffset.val.toInt + offset s)
          else s.steer.maxOffset.val)
        count := s.steer.count - 1 } (.ok .unit))

/-- R146–R148: the last CalibrateMax pulse, the accumulators straddling 0, computes slope and centre, drives the DAC with the clamped
centre, sets HAS_CAL and enters FreqDiscipline. -/
def Obligations.CalibrationAccepted : Prop :=
  ∀ (s : State) (mx slope center : Word) (mn : Int), GateOpen s → s.steer.state = 2 → s.steer.count = 1 → 1 ≤ s.cfg.periods →
    s.steer.minOffset.written = true → s.steer.maxOffset.written = true →
    mn = s.steer.minOffset.val.toInt → mx = stored (s.steer.maxOffset.val.toInt + offset s) → mn < 0 → 0 < mx.toInt →
    slope = stored (((s.cfg.periods : Int) * s.cfg.dacRange).tdiv (mx.toInt - mn)) →
    center = stored ((-slope.toInt * mn).tdiv s.cfg.periods) →
    exec .steerPulse s = .next (drivenPulse s
      { snapped s with
        maxOffset := Reg.of mx, slope := Reg.of slope, dacCenter := Reg.of center, state := 3, count := s.cfg.settle
        flags := s.steer.flags ||| 0b01 } (stored (clampDac s.cfg center.toInt)) (.ok .unit))

/-- R151: the last CalibrateMax pulse, the accumulators not straddling 0, is refused loudly: CAL_ERR set, HAS_CAL cleared, the failure
counted, Init entered; SLOPE, DAC_CENTER, DAC_VALUE and the DAC are not written. -/
def Obligations.CalibrationRefused : Prop :=
  ∀ (s : State) (mx : Word) (mn : Int), GateOpen s → s.steer.state = 2 → s.steer.count = 1 → 1 ≤ s.cfg.periods →
    s.steer.minOffset.written = true → s.steer.maxOffset.written = true →
    mn = s.steer.minOffset.val.toInt → mx = stored (s.steer.maxOffset.val.toInt + offset s) → ¬ (mn < 0 ∧ 0 < mx.toInt) →
    exec .steerPulse s = .next ({ s with
      steer := { snapped s with
        maxOffset := Reg.of mx, state := 0, count := s.cfg.initDiscard, flags := 0b10 }
      stats := { s.stats with calFail := s.stats.calFail + 1 } }.complete .calibrationPreconditionViolated)

/-- R152–R154: an accepted pulse in FreqDiscipline snaps the reference, reloads or counts down the settle counter, corrects, and
enters PhaseDiscipline where the counter reaches 0. -/
def Obligations.FreqPulse : Prop :=
  ∀ (s : State) (count center : Word) (p : Int), GateOpen s → s.steer.state = 3 →
    s.steer.slope.written = true → s.steer.dacCenter.written = true →
    count = (if s.cfg.freqLockThresh < (offset s).natAbs then s.cfg.settle else s.steer.count - 1) →
    p = offset s * s.steer.slope.val.toInt → center = stored (s.steer.dacCenter.val.toInt - p.tdiv 4) →
    exec .steerPulse s = .next (drivenPulse s
      { snapped s with dacCenter := Reg.of center, count := count, state := if count = 0 then 4 else 3 }
      (stored (clampDac s.cfg (center.toInt - (p * 3).tdiv 4))) (.ok .unit))

/-- R143, R154, R155: an accepted pulse in PhaseDiscipline advances the reference by NOMINAL_INTERVAL, corrects, and goes back to
FreqDiscipline where the offset is past PHASE_LOSS_THRESH. -/
def Obligations.PhasePulse : Prop :=
  ∀ (s : State) (center : Word) (p : Int), GateOpen s → s.steer.state = 4 →
    s.steer.slope.written = true → s.steer.dacCenter.written = true →
    p = offset s * s.steer.slope.val.toInt → center = stored (s.steer.dacCenter.val.toInt - p.tdiv 4) →
    exec .steerPulse s = .next (drivenPulse s
      { s.steer with
        lastTick := s.portB
        lastRef := s.steer.lastRef + s.cfg.nominalInterval
        dacCenter := Reg.of center
        state := if s.cfg.phaseLossThresh < (offset s).natAbs then 3 else 4
        count := if s.cfg.phaseLossThresh < (offset s).natAbs then s.cfg.settle else s.steer.count }
      (stored (clampDac s.cfg (center.toInt - (p * 3).tdiv 4))) (.ok .unit))

/-- R164: at the default gate and discard count, a pulse 200 ticks after the last returns to Init, and the next two pulses, 100 ticks
apart, are discarded: they leave Init only at the second, and neither reaches SLOPE, DAC_CENTER or an accumulator. -/
def Obligations.AnomalyReset : Prop :=
  ∀ (s0 : State) (ts1 ts2 : Word), s0.agent = .poll → s0.cfg.gateMin = 75 → s0.cfg.gateMax = 125 → s0.cfg.initDiscard = 2 →
    s0.portB - s0.steer.lastTick = 200 →
    ∃ s1 s2 s3,
      exec .steerPulse s0 = .next s1 ∧ s1.steer.state = 0 ∧
      exec .steerPulse { s1 with portA := { s1.portA with word := ts1 }, portB := s0.portB + 100 } = .next s2 ∧
      s2.steer.state = 0 ∧
      exec .steerPulse { s2 with portA := { s2.portA with word := ts2 }, portB := s0.portB + 200 } = .next s3 ∧
      s3.steer.state ≠ 0 ∧ s3.steer.slope = s0.steer.slope ∧ s3.steer.dacCenter = s0.steer.dacCenter ∧
      (s3.steer.minOffset = s0.steer.minOffset ∨ s3.steer.minOffset = Reg.of 0) ∧
      s3.steer.maxOffset = s0.steer.maxOffset

/-! ## SerialFrameExchange (43_frame_exchange.md) -/

/-- R170: XCH_START arms both rings, and changes nothing else of the block; once either direction is enabled it is refused.
That it is executed at any time before that: log entry 18; that a refused word is passed over: log entry 9. -/
def Obligations.XchStart : Prop :=
  ∀ s : State, s.agent = .poll →
    (s.rx.ie = false → s.tx.ie = false → exec .xchStart s = .next ({ s with
      rx := { s.rx with
        cur := 0, last := 0xFF, sr := 0, ie := true
        dmaCur := { valid := true, slot := 0, pos := 0 }, dmaNxt := { valid := true, slot := 1 } }
      tx := { s.tx with
        cur := 0, last := 0xFF, sr := 0, ie := true
        dmaCur := { valid := true, slot := 0, pos := 0 }, dmaNxt := { valid := true, slot := 1 } } }.complete (.ok .unit))) ∧
    (s.rx.ie = true ∨ s.tx.ie = true → exec .xchStart s = .next { s with refused := true }.advance)

/-- R171: one word of either engine. Receive stores the word at the engine's slot and position, every other word of RXS as before;
transmit puts that word of TXS on the line and stores nothing; then the engine moves on. With both descriptors exhausted a
received word is lost and some word is transmitted. -/
def Obligations.DmaWord : Prop :=
  (∀ (s : State) (slot pos : Byte) (nxt : DmaNxt), s.agent = .hw .dmaRx → transfer s.rx = some (slot, pos, nxt) →
    Memory.wf s.cfg.nRx s.rx.slots = true → slot.toNat < s.cfg.nRx → pos.toNat < 16 →
    ∃ m, exec (.dmaWord .rx) s = .next { s with rx := transferred { s.rx with slots := m } slot pos nxt } ∧
      Memory.readWord s.cfg.nRx m slot.toNat pos.toNat = .ok s.portA.word ∧
      ∀ k w, (k, w) ≠ (slot.toNat, pos.toNat) →
        Memory.readWord s.cfg.nRx m k w = Memory.readWord s.cfg.nRx s.rx.slots k w) ∧
  (∀ (s : State) (slot pos : Byte) (nxt : DmaNxt) (v : Word), s.agent = .hw .dmaTx → transfer s.tx = some (slot, pos, nxt) →
    Memory.readWord s.cfg.nTx s.tx.slots slot.toNat pos.toNat = .ok v →
    exec (.dmaWord .tx) s = .next { s with tx := transferred s.tx slot pos nxt, obs := .lineOut v :: s.obs }) ∧
  (∀ s : State, s.agent = .hw .dmaRx → transfer s.rx = none → exec (.dmaWord .rx) s = .next s) ∧
  (∀ s : State, s.agent = .hw .dmaTx → transfer s.tx = none →
    ∃ v, exec (.dmaWord .tx) s = .next { s with freeIdx := s.freeIdx + 1, obs := .lineOut v :: s.obs })

/-- R174, R178: the micro-steps of XCH_ISR(d), and all they change; no slot is stored to. The callback's start is a step of its own (log entry 11). -/
def Obligations.XchIsrSteps : Prop :=
  ∀ (s : State) (c : IsrCtx) (d : Dir) (e : Exchange), e = s.xch d →
    (InHandler s c (.xchIsr d) 1 → exec (.xchIsr d) s =
      .next { s.setXch d { e with sr := 0 } with isr := some { c with mu := 2, hX := e.sr } }) ∧
    (InHandler s c (.xchIsr d) 2 →
      (c.hX.getLsbD 0 = true → exec (.xchIsr d) s =
        .next { s.setXch d { e with last := e.cur, cur := BitVec.ofNat 8 ((e.cur.toNat + 1) % s.cfg.depth d) } with
          isr := some { c with mu := 3, done := e.cur } }) ∧
      (c.hX.getLsbD 0 = false → exec (.xchIsr d) s = .next { s with isr := some { c with mu := 3 } })) ∧
    (InHandler s c (.xchIsr d) 3 →
      (c.hX.getLsbD 0 = true → exec (.xchIsr d) s =
        .next { s.setXch d { e with
            dmaNxt := { valid := true, slot := BitVec.ofNat 8 ((c.done.toNat + 2) % s.cfg.depth d) } } with
          isr := some { c with mu := 4 } }) ∧
      (c.hX.getLsbD 0 = false → exec (.xchIsr d) s = .next { s with isr := some { c with mu := 4 } })) ∧
    (InHandler s c (.xchIsr d) 4 →
      (c.hX.getLsbD 1 = true → exec (.xchIsr d) s =
        .next { s.setXch d { e with errcnt := e.errcnt + 1, dmaCur := { valid := true, slot := 0, pos := 0 } } with
          isr := some { c with mu := 5 } }) ∧
      (c.hX.getLsbD 1 = false → exec (.xchIsr d) s = .next { s with isr := some { c with mu := 5 } })) ∧
    (InHandler s c (.xchIsr d) 5 →
      (c.hX.getLsbD 1 = true → exec (.xchIsr d) s =
        .next { s.setXch d { e with dmaNxt := { valid := true, slot := 1 }, cur := 0 } with
          isr := some { c with mu := 6 } }) ∧
      (c.hX.getLsbD 1 = false → exec (.xchIsr d) s = .next { s with isr := some { c with mu := 6 } })) ∧
    (InHandler s c (.xchIsr d) 6 →
      (c.hX.getLsbD 0 = true → ∃ cb, exec (.xchIsr d) s = .next { s with isr := some { c with cb := cb } } ∧
        cb = (if d = .rx ∧ s.cfg.rxCallback = .alignStep then .alignEntry else .external .start)) ∧
      (c.hX.getLsbD 0 = false → exec (.xchIsr d) s =
        .next { s with isr := none, obs := .trace (.xchIsr d) (xchTrace d c.hX) :: s.obs }))

/-- R176, R177: an external callback's own steps. The transmit callback stores into the slot just transmitted, one word, every other
word of TXS as before; a receive callback that tries is refused; the return ends the handler with its trace result. Log entry 12. -/
def Obligations.CallbackSteps : Prop :=
  ∀ (s : State) (c : IsrCtx) (st : RbStage), Live s → s.nextEvent = .isr → s.isr = some c → c.cb = .external st →
    (∀ w v, s.nextCbItem = .fill w v → c.handler = .xchIsr .tx → Memory.wf s.cfg.nTx s.tx.slots = true →
      c.done.toNat < s.cfg.nTx → ∃ m,
        step s = .next { taken s with
          agent := .isr, tx := { s.tx with slots := m }, isr := some { c with cb := .external .start }
          cbItems := s.cbItems.tail, cbIdx := s.cbIdx + 1 } ∧
        Memory.readWord s.cfg.nTx m c.done.toNat w.toNat = .ok v ∧
        ∀ k j, (k, j) ≠ (c.done.toNat, w.toNat) →
          Memory.readWord s.cfg.nTx m k j = Memory.readWord s.cfg.nTx s.tx.slots k j) ∧
    (∀ w v, s.nextCbItem = .fill w v → c.handler = .xchIsr .rx →
      step s = .next { taken s with
        agent := .isr, refused := true, isr := some { c with cb := .external .start }
        cbItems := s.cbItems.tail, cbIdx := s.cbIdx + 1 }) ∧
    (∀ d, s.nextCbItem = .ret → c.handler = .xchIsr d →
      step s = .next { taken s with
        agent := .isr, isr := none, cbItems := s.cbItems.tail, cbIdx := s.cbIdx + 1
        obs := .trace (.xchIsr d) (xchTrace d c.hX) :: s.obs })

/-- R175: where two slots are outstanding and the engine moves the last word of the current one, XCH_ISR(d) up to its μ3 makes two
slots outstanding again, the next slot current, the finished one published. -/
def Obligations.RingInvariantRestored : Prop :=
  ∀ (s : State) (d : Dir) (n : Nat), n = s.cfg.depth d → 2 ≤ n → n ≤ 127 → Outstanding n (s.xch d) →
    (s.xch d).dmaCur.pos = 15 → (s.xch d).sr = 0 → Memory.wf n (s.xch d).slots = true →
    ∃ s1 s2 s3 s4,
      exec (.dmaWord d) { s with agent := .hw (dmaAgent d) } = .next s1 ∧
      exec (.xchIsr d) { s1 with agent := .isr, isr := some (IsrCtx.enter (.xchIsr d)) } = .next s2 ∧
      exec (.xchIsr d) s2 = .next s3 ∧ exec (.xchIsr d) s3 = .next s4 ∧
      Outstanding n (s4.xch d) ∧ (s4.xch d).last = (s.xch d).cur ∧ (s4.xch d).sr = 0 ∧ (s4.xch d).dmaCur.pos = 0 ∧
      (s4.xch d).cur.toNat = ((s.xch d).cur.toNat + 1) % n

/-- R179: every DMA_WORD that moves the sixteenth word of a slot, whatever the status before it, sets END and leaves no armed next
descriptor: it goes on with the one that was armed, or, where none was, sets BUFF and leaves the engine idle. Only XCH_ISR(d) and
XCH_START arm one, so a second completion with neither between sets BUFF. -/
def Obligations.SecondCompletionOverruns : Prop :=
  ∀ (d : Dir) (s : State),
    (∀ slot nxt, s.agent = .hw (dmaAgent d) → transfer (s.xch d) = some (slot, 15, nxt) →
      Memory.wf (s.cfg.depth d) (s.xch d).slots = true → slot.toNat < s.cfg.depth d →
      ∃ t, exec (.dmaWord d) s = .next t ∧ isEnd (t.xch d).sr = true ∧ (t.xch d).dmaNxt.valid = false ∧
        (nxt.valid = true → (t.xch d).dmaCur = { valid := true, slot := nxt.slot, pos := 0 } ∧
          isBuff (t.xch d).sr = isBuff (s.xch d).sr) ∧
        (nxt.valid = false → isBuff (t.xch d).sr = true ∧ (t.xch d).dmaCur.valid = false)) ∧
    (∀ t, step s = .next t → (s.xch d).dmaNxt.valid = false → (t.xch d).dmaNxt.valid = true →
      Ran s (.xchIsr d) ∨ Ran s .xchStart)

/-! ## FrameAlignmentDetector (44_alignment.md) -/

/-- R190, R191, R194: the steps of ALIGN_STEP, and all they change; it stores to no slot. Log entry 11. -/
def Obligations.AlignSteps : Prop :=
  ∀ (s : State) (c : IsrCtx),
    (InAlign s c .alignEntry →
      (s.detCnt ≠ 1 → exec .alignStep s = .next { s with
        detCnt := s.detCnt - 1, isr := none
        obs := .trace (.xchIsr .rx) (xchTrace .rx c.hX) :: .trace .alignStep (.ok .unit) :: s.obs }) ∧
      (s.detCnt = 1 → exec .alignStep s = .next { s with detCnt := 0, isr := some { c with cb := .alignEven 0 } })) ∧
    (∀ k w0, InAlign s c (.alignEven k) → Memory.readWord s.cfg.nRx s.rx.slots k 0 = .ok w0 →
      exec .alignStep s = .next { s with isr := some { c with cb := .alignOdd k w0 } }) ∧
    (∀ k w0 w8, InAlign s c (.alignOdd k w0) → Memory.readWord s.cfg.nRx s.rx.slots k 8 = .ok w8 →
      (w0.extractLsb' 25 7 = s.cfg.fasPattern ∧ w8.extractLsb' 30 2 = s.cfg.nfasPattern →
        (k + 1 < s.cfg.nRx → exec .alignStep s = .next { s with isr := some { c with cb := .alignEven (k + 1) } }) ∧
        (s.cfg.nRx ≤ k + 1 → exec .alignStep s = .next { s with
          detCnt := s.cfg.alignCheckInterval, isr := none
          obs := .trace (.xchIsr .rx) (xchTrace .rx c.hX) :: .trace .alignStep (.ok .unit) :: s.obs })) ∧
      (¬ (w0.extractLsb' 25 7 = s.cfg.fasPattern ∧ w8.extractLsb' 30 2 = s.cfg.nfasPattern) →
        exec .alignStep s = .next { s with
          stats := { s.stats with desync := s.stats.desync + 1 }, isr := some { c with cb := .alignRequest } })) ∧
    (∀ busy, InAlign s c (.alignFinish busy) → exec .alignStep s = .next { s with
      stats := { s.stats with phaseBusy := if busy = true then s.stats.phaseBusy + 1 else s.stats.phaseBusy }
      detCnt := s.cfg.alignCheckInterval, isr := none
      obs := .trace (.xchIsr .rx) (xchTrace .rx c.hX) :: .trace .alignStep .desync :: s.obs })

/-- R190, R194–R196: a check with no other agent stepping. All slots good: no request, the timer and the mailbox untouched. Some slot
bad: whatever the slots after the first bad one hold, exactly one PHASE_REQUEST(Increase), Busy absorbed and counted, one check
counted, result Desync. The steps are those of log entry 11. -/
def Obligations.ScanIssuesOneRequest : Prop :=
  ∀ (s : State) (c : IsrCtx), InAlign s c .alignEntry → s.detCnt = 1 → Memory.wf s.cfg.nRx s.rx.slots = true →
    1 ≤ s.cfg.nRx → s.ft.pend ≠ 3 →
    ((∀ k, k < s.cfg.nRx → SlotGood s k) →
      repeatExec (2 * s.cfg.nRx + 1) .alignStep s = some { s with
        detCnt := s.cfg.alignCheckInterval, isr := none
        obs := .trace (.xchIsr .rx) (xchTrace .rx c.hX) :: .trace .alignStep (.ok .unit) :: s.obs }) ∧
    (∀ k, k < s.cfg.nRx → (∀ j, j < k → SlotGood s j) → ¬ SlotGood s k →
      ∃ ft busy, (s.ft.pend ≠ 0 → ft = s.ft ∧ busy = true) ∧
        (s.ft.pend = 0 → busy = false ∧ ft = { s.ft with
          pend := 1, armed := true, matched := s.ft.armed && s.ft.matched }) ∧
        chainExec (List.replicate (2 * k + 3) .alignStep ++ [.phaseRequest .increase, .alignStep]) s = some { s with
          ft := ft
          stats := { s.stats with
            desync := s.stats.desync + 1
            phaseBusy := if busy = true then s.stats.phaseBusy + 1 else s.stats.phaseBusy }
          detCnt := s.cfg.alignCheckInterval, isr := none
          obs := .trace (.xchIsr .rx) (xchTrace .rx c.hX) :: .trace .alignStep .desync ::
            .result .isr (if busy = true then .busy else .ok .unit) :: s.obs })

/-! ## FrameClockPhaseAdjuster (45_phase_adjust.md) -/

/-- R200: PHASE_REQUEST from POLL and from ALIGN_STEP: Busy without any change while a request is pending; else posted, a stale match of
an unarmed period dropped, the interrupt armed; nothing else of the block changes. The ISR form:
log entry 11. -/
def Obligations.PhaseRequest : Prop :=
  ∀ (s : State) (dir : Nudge) (ft : FrameTimer),
    ft = { s.ft with
      pend := (match dir with | .increase => 1 | .decrease => 2), armed := true, matched := s.ft.armed && s.ft.matched } →
    (s.agent = .poll →
      (s.ft.pend = 0 →
        exec (.phaseRequest dir) s = .next ({ s with ft := ft, primask := false }.complete (.ok .unit))) ∧
      (s.ft.pend = 1 ∨ s.ft.pend = 2 →
        exec (.phaseRequest dir) s = .next ({ s with primask := false }.complete .busy))) ∧
    (∀ c, s.agent = .isr → s.isr = some c → c.cb = .alignRequest →
      (s.ft.pend = 0 → exec (.phaseRequest dir) s = .next { s with
        ft := ft, isr := some { c with cb := .alignFinish false }, obs := .result .isr (.ok .unit) :: s.obs }) ∧
      (s.ft.pend = 1 ∨ s.ft.pend = 2 → exec (.phaseRequest dir) s = .next { s with
        isr := some { c with cb := .alignFinish true }, obs := .result .isr .busy :: s.obs }))

/-- R202: FT_TICK counts to FT_TOP − 1; the tick there ends the period: counter 0, MATCH set whether or not armed, one frame-sync;
nothing else changes. -/
def Obligations.FtTick : Prop :=
  ∀ s : State, s.agent = .hw .ftimer →
    (s.ft.cnt = s.ft.top - 1 →
      exec .ftTick s = .next { s with ft := { s.ft with cnt := 0, matched := true }, obs := .frameSync :: s.obs }) ∧
    (s.ft.cnt ≠ s.ft.top - 1 → exec .ftTick s = .next { s with ft := { s.ft with cnt := s.ft.cnt + 1 } })

/-- R203: the two micro-steps of FT_ISR: MATCH cleared; then the pending delta applied to the nominal top, the mailbox back to Idle, and
the interrupt disarmed where nothing was pending. Nothing else changes. -/
def Obligations.FtIsr : Prop :=
  ∀ (s : State) (c : IsrCtx),
    (InHandler s c .ftIsr 1 →
      exec .ftIsr s = .next { s with ft := { s.ft with matched := false }, isr := some { c with mu := 2 } }) ∧
    (InHandler s c .ftIsr 2 → s.ft.pend ≠ 3 → exec .ftIsr s = .next { s with
      ft := { s.ft with
        top := topFor s.cfg.nominalTop s.ft.pend
        armed := if s.ft.pend = 0 then false else s.ft.armed
        pend := 0 }
      isr := none
      obs := .trace .ftIsr (.ok .unit) :: s.obs })

/-- R204, R205: an accepted request, FT_ISR running right after each match: the running period ends at NOMINAL_TOP, exactly the next one
lasts NOMINAL_TOP ± 1 ticks, the one after it NOMINAL_TOP again, and the adjuster is at rest. Each period is the ticks between two
frame-syncs, the counter being 0 after each. -/
def Obligations.NudgeLastsOnePeriod : Prop :=
  ∀ (s : State) (dir : Nudge) (c : Half) (n n1 : Nat), Live s → s.isr = none → s.primask = false →
    s.ft = { pend := (match dir with | .increase => 1 | .decrease => 2), armed := true, top := s.cfg.nominalTop, cnt := c,
             matched := false } →
    n = s.cfg.nominalTop.toNat → c.toNat < n → n1 = (match dir with | .increase => n + 1 | .decrease => n - 1) →
    s.sched = ftTicks (n - c.toNat) ++ ftHandler ++ (ftTicks n1 ++ ftHandler ++ ftTicks n) →
    ∃ t0 t1 t2,
      Host.Core.run Sys2Proof.core (n - c.toNat + 3) s = .next t0 ∧ t0.ft.cnt = 0 ∧ t0.ft.top.toNat = n1 ∧
      syncs t0.obs = syncs s.obs + 1 ∧
      Host.Core.run Sys2Proof.core (n1 + 3) t0 = .next t1 ∧ t1.ft.cnt = 0 ∧ syncs t1.obs = syncs s.obs + 2 ∧
      t1.ft.armed = false ∧ t1.ft.top = s.cfg.nominalTop ∧ t1.ft.pend = 0 ∧
      Host.Core.run Sys2Proof.core n t1 = .next t2 ∧ t2.ft.cnt = 0 ∧ syncs t2.obs = syncs s.obs + 3 ∧
      t2.ft.top = s.cfg.nominalTop ∧ t2.ft.armed = false

/-! ## BitRealigner (46_realigner.md) -/

/-- R220: RA_SET_ALIGNMENT sets its instance's offset and zeroes its carry state, and changes nothing else of the block. The owner
(R226) issues it from POLL or from an external receive callback: log entry 12. -/
def Obligations.RaSetAlignment : Prop :=
  ∀ (s : State) (i : BitVec 8) (nBits : BitVec 16), i.toNat < s.cfg.raCount → i.toNat < s.realigners.length →
    ActsFor s s.cfg.raOwner[i.toNat]? →
    exec (.raSetAlignment i nBits) s = .next ({ s with
      realigners := s.realigners.set i.toNat
        { offset := BitVec.ofNat 8 (nBits.toNat % (s.cfg.f * 8)), carry := 0, reframe := List.replicate s.cfg.f 0 }
      }.complete (.ok .unit))

/-- R221: RA_REALIGN_FRAME byte by byte: `buf` is the overlap, then each byte shifted with the low bits of the one before it above it; the
first F bytes are the output, the rest the new overlap, the last byte's low bits the new carry; no other instance changes. The owner (R226) issues it from POLL or
from an external receive callback: log entry 12. -/
def Obligations.RaRealignFrame : Prop :=
  ∀ (s : State) (i : BitVec 8) (r : Realigner) (B b : Nat) (inp : List Byte) (buf : Nat → Byte),
    i.toNat < s.cfg.raCount → s.realigners[i.toNat]? = some r → ActsFor s s.cfg.raOwner[i.toNat]? →
    1 ≤ s.cfg.f → s.cfg.f ≤ 32 → r.reframe.length = s.cfg.f → B = r.offset.toNat / 8 → B < s.cfg.f → b = r.offset.toNat % 8 →
    inp = s.portA.frame.toList.take s.cfg.f →
    (∀ j, buf j = if j < B then r.reframe.getD j 0
      else inp.getD (j - B) 0 >>> b ||| (if j = B then r.carry else inp.getD (j - B - 1) 0 <<< (8 - b))) →
    exec (.raRealignFrame i) s = .next ({ s with
      realigners := s.realigners.set i.toNat
        { offset := r.offset
          carry := inp.getD (s.cfg.f - 1) 0 <<< (8 - b)
          reframe := (List.range s.cfg.f).map (fun j => if j < B then buf (s.cfg.f + j) else 0) }
      }.complete (.ok (.frame ((List.range s.cfg.f).map buf))))

/-- R222: after RA_SET_ALIGNMENT, the frames passed to successive RA_REALIGN_FRAME calls, read as one bit stream, come out delayed by
exactly the offset, zero bits first. The owner (R226) issues them from POLL or from an external receive callback: log entry 12. -/
def Obligations.StreamDelayed : Prop :=
  ∀ (s : State) (i : BitVec 8) (off : Byte) (frames : List (Vector Byte 32)),
    ActsFor s s.cfg.raOwner[i.toNat]? → i.toNat < s.cfg.raCount → 1 ≤ s.cfg.f → s.cfg.f ≤ 32 →
    off.toNat < s.cfg.f * 8 →
    s.realigners[i.toNat]? = some { offset := off, carry := 0, reframe := List.replicate s.cfg.f 0 } →
    ∃ outs t, realignAll i frames s = some (outs, t) ∧ outs.length = frames.length ∧
      bitsOf outs.flatten =
        (List.replicate off.toNat false ++ bitsOf (frames.map (fun fr => fr.toList.take s.cfg.f)).flatten).take
          (8 * s.cfg.f * frames.length)

/-! ## Statistics and model faults (60_exceptions.md) -/

/-- R262: STATS_SNAPSHOT answers all counters and the three registers of one state, and changes nothing else of the block. -/
def Obligations.StatsSnapshot : Prop :=
  ∀ s : State, s.agent = .poll →
    exec .statsSnapshot s = .next ({ s with primask := false }.complete (.ok (.snapshot
      { rxOverrun := s.rx.errcnt, txUnderrun := s.tx.errcnt, desync := s.stats.desync, phaseBusy := s.stats.phaseBusy
        ppsLoss := s.stats.ppsLoss, calFail := s.stats.calFail, stState := s.steer.state, stFlags := s.steer.flags
        paPend := s.ft.pend })))

/-- R246: every operation that meets a model fault records it and changes nothing else: a read of an element that holds no value (U5),
ST_STATE in 5..7 behind an open gate (U6), PA_PEND 3 (U7), a slot or word index out of range (20_memory.md R61). That a ring or
realigner the state does not have, and an overlap byte past RA_REFRAME, are SlotIndex too is the model's choice, log entry 23. A
configuration outside 00_scope.md R8 is recorded as BadConfig (U11) before any agent steps; that the ranges R7 gives RB_COUNT, RA_COUNT
and DAC_SHIFT count with R8's constraints is the model's reading, log entry 14. After a recorded fault no step of any agent is
defined. Log entries 8, 10, 14, 23. -/
def Obligations.ModelFaults : Prop :=
  (∀ (s : State) (r : Fault) (rest : List Fault), s.faults = r :: rest → step s = .fault r) ∧
  (∀ s : State, s.faults = [] → s.cfg.valid = false → step s = .next { s with faults := [.badConfig] }) ∧
  (∀ (s : State) (r : Fault), s.mark r = { s with faults := if r ∈ s.faults then s.faults else r :: s.faults }) ∧
  -- UnwrittenRead
  (∀ s : State, s.agent = .poll →
    (s.cap.fresh.getLsbD 0 = true ∧ s.cap.tsR.written = false) ∨ (s.cap.fresh.getLsbD 1 = true ∧ s.cap.tsF.written = false) →
    exec .capPoll s = .next (s.mark .unwrittenRead)) ∧
  (∀ (s : State) (c : IsrCtx),
    (InHandler s c .capIsr 3 ∧ c.hSr.getLsbD 1 = true ∧ s.cap.latchR.written = false) ∨
    (InHandler s c .capIsr 4 ∧ c.hSr.getLsbD 2 = true ∧ s.cap.latchF.written = false) →
    exec .capIsr s = .next (s.mark .unwrittenRead)) ∧
  (∀ s : State, GateOpen s →
    (s.steer.state = 1 ∧ s.steer.count.toNat ≤ s.cfg.periods ∧ s.steer.minOffset.written = false) ∨
    (s.steer.state = 2 ∧ s.steer.count.toNat ≤ s.cfg.periods ∧ s.steer.maxOffset.written = false) ∨
    (s.steer.state = 2 ∧ s.steer.count = 1 ∧ (s.steer.minOffset.written = false ∨ s.steer.maxOffset.written = false)) ∨
    ((s.steer.state = 3 ∨ s.steer.state = 4) ∧ (s.steer.slope.written = false ∨ s.steer.dacCenter.written = false)) →
    exec .steerPulse s = .next (s.mark .unwrittenRead)) ∧
  (∀ (s : State) (i : BitVec 8) (ring : Ring) (r : Nat) (c : Reg Nat),
    i.toNat < s.cfg.rbCount → ActsFor s s.cfg.rbConsumer[i.toNat]? → s.rings[i.toNat]? = some ring →
    s.stage = .getRead i.toNat r → ring.buf[r]? = some c → c.written = false →
    exec (.rbGet i) s = .next (s.mark .unwrittenRead)) ∧
  -- BadSteeringState
  (∀ s : State, GateOpen s → 5 ≤ s.steer.state.toNat → exec .steerPulse s = .next (s.mark .badSteeringState)) ∧
  -- PA_PEND = 3
  (∀ (s : State) (dir : Nudge), s.agent = .poll ∨ (s.agent = .isr ∧ ∃ c, s.isr = some c ∧ c.cb = .alignRequest) →
    s.ft.pend = 3 → exec (.phaseRequest dir) s = .next (s.mark .mailboxStuck)) ∧
  (∀ (s : State) (c : IsrCtx), InHandler s c .ftIsr 2 → s.ft.pend = 3 → exec .ftIsr s = .next (s.mark .mailboxStuck)) ∧
  -- SlotIndex
  (∀ (s : State) (d : Dir) (slot pos : Byte) (nxt : DmaNxt), s.agent = .hw (dmaAgent d) →
    transfer (s.xch d) = some (slot, pos, nxt) → s.cfg.depth d ≤ slot.toNat ∨ 16 ≤ pos.toNat →
    exec (.dmaWord d) s = .next (s.mark .slotIndex)) ∧
  (∀ (s : State) (c : IsrCtx) (k : Nat) (w0 : Word), InAlign s c (.alignEven k) ∨ InAlign s c (.alignOdd k w0) →
    s.cfg.nRx ≤ k → exec .alignStep s = .next (s.mark .slotIndex)) ∧
  (∀ (s : State) (c : IsrCtx) (st : RbStage) (w : BitVec 4) (v : Word), Live s → s.nextEvent = .isr → s.isr = some c →
    c.handler = .xchIsr .tx → c.cb = .external st → s.nextCbItem = .fill w v → s.cfg.nTx ≤ c.done.toNat →
    step s = .next ((taken s).mark .slotIndex)) ∧
  (∀ (s : State) (i : BitVec 8), i.toNat < s.cfg.rbCount →
    (ActsFor s s.cfg.rbProducer[i.toNat]? →
      s.rings.length ≤ i.toNat ∨ (∃ ring w nw, s.rings[i.toNat]? = some ring ∧ s.stage = .putStore i.toNat w nw ∧
        ring.buf.length ≤ w) →
      exec (.rbPut i) s = .next (s.mark .slotIndex)) ∧
    (ActsFor s s.cfg.rbConsumer[i.toNat]? →
      s.rings.length ≤ i.toNat ∨ (∃ ring r, s.rings[i.toNat]? = some ring ∧ s.stage = .getRead i.toNat r ∧
        ring.buf.length ≤ r) →
      exec (.rbGet i) s = .next (s.mark .slotIndex))) ∧
  (∀ (s : State) (i : BitVec 8), i.toNat < s.cfg.raCount → ActsFor s s.cfg.raOwner[i.toNat]? →
    (s.realigners.length ≤ i.toNat → ∀ n, exec (.raSetAlignment i n) s = .next (s.mark .slotIndex)) ∧
    (s.realigners.length ≤ i.toNat ∨ (∃ r, s.realigners[i.toNat]? = some r ∧ r.reframe.length < r.offset.toNat / 8) →
      exec (.raRealignFrame i) s = .next (s.mark .slotIndex)))
end

