-- ==== Sys2Proof/Laws/Memory.lean ====
section
/-! SUPPORT. The laws of the memories: slot memories (20_memory.md R61), ring slots, registers that may hold no value. -/

namespace Sys2Proof.Machine

/-! ### Registers -/

@[simp] theorem reg_read_of {α : Type} (v : α) : (Reg.of v).read = .ok v := rfl

@[simp] theorem reg_of_written {α : Type} (v : α) : (Reg.of v).written = true := rfl

@[simp] theorem reg_of_val {α : Type} (v : α) : (Reg.of v).val = v := rfl

@[simp] theorem reg_blank_written {α : Type} (v : α) : (Reg.blank v).written = false := rfl

theorem reg_read_written {α : Type} {r : Reg α} (h : r.written = true) : r.read = .ok r.val := by
  simp [Reg.read, h]

theorem reg_read_ok {α : Type} {r : Reg α} {v : α} (h : r.read = .ok v) : r.written = true ∧ r.val = v := by
  unfold Reg.read at h
  split at h
  · exact ⟨‹_›, by simpa using h⟩
  · cases h

/-! ### Lists of units -/

theorem unitAt_some {α : Type} {l : List α} {i : Nat} {a : α} (h : l[i]? = some a) : unitAt l i = .ok a := by
  simp [unitAt, h]

theorem unitAt_ok {α : Type} {l : List α} {i : Nat} {a : α} (h : unitAt l i = .ok a) : l[i]? = some a := by
  unfold unitAt at h
  split at h
  · cases h; assumption
  · cases h

theorem unitAt_lt {α : Type} {l : List α} {i : Nat} (h : i < l.length) : unitAt l i = .ok l[i] :=
  unitAt_some (List.getElem?_eq_getElem h)

/-! ### Slot memories -/

theorem wf_length {n : Nat} {m : Memory} (h : Memory.wf n m = true) : m.length = n := by
  simp [Memory.wf] at h; exact h.1

theorem wf_slot {n : Nat} {m : Memory} (h : Memory.wf n m = true) {slot : List Word} (hs : slot ∈ m) :
    slot.length = 16 := by
  simp [Memory.wf, Config.dfWords] at h; exact of_decide_eq_true (h.2 slot hs)

/-- The word at an index in range. -/
theorem readWord_wf {n : Nat} {m : Memory} (h : Memory.wf n m = true) {s w : Nat} (hs : s < n) (hw : w < 16) :
    ∃ v, Memory.readWord n m s w = .ok v := by
  have hl : s < m.length := by rw [wf_length h]; exact hs
  have hk : w < (m[s]).length := by rw [wf_slot h (List.getElem_mem hl)]; exact hw
  exact ⟨m[s][w], by simp [Memory.readWord, Config.dfWords, hs, hw, hl, hk]⟩

/-- A word stored at an index in range. -/
theorem writeWord_ok {n : Nat} {m : Memory} (h : Memory.wf n m = true) {s w : Nat} (hs : s < n) (hw : w < 16) (v : Word) :
    ∃ slot, m[s]? = some slot ∧ Memory.writeWord n m s w v = .ok (m.set s (slot.set w v)) := by
  have hl : s < m.length := by rw [wf_length h]; exact hs
  have hk : w < (m[s]).length := by rw [wf_slot h (List.getElem_mem hl)]; exact hw
  exact ⟨m[s], by simp [hl], by simp [Memory.writeWord, Config.dfWords, hs, hw, hl, hk]⟩

/-- What a store that answers has done, and where it can answer. -/
theorem writeWord_cases {n : Nat} {m m' : Memory} {s w : Nat} {v : Word} (h : Memory.writeWord n m s w v = .ok m') :
    s < n ∧ w < 16 ∧ ∃ slot, m[s]? = some slot ∧ w < slot.length ∧ m' = m.set s (slot.set w v) := by
  unfold Memory.writeWord Config.dfWords at h
  split at h
  · rename_i hr
    split at h
    · rename_i slot hslot
      split at h
      · rename_i hw
        exact ⟨hr.1, hr.2, slot, hslot, hw, by simpa using h.symm⟩
      · cases h
    · cases h
  · cases h

/-- A store keeps the canonical form. -/
theorem writeWord_wf {n : Nat} {m m' : Memory} {s w : Nat} {v : Word} (hm : Memory.wf n m = true)
    (h : Memory.writeWord n m s w v = .ok m') : Memory.wf n m' = true := by
  obtain ⟨-, -, slot, hslot, -, rfl⟩ := writeWord_cases h
  have hlen := wf_length hm
  have hs16 := wf_slot hm (List.mem_of_getElem? hslot)
  simp only [Memory.wf, List.length_set, hlen, decide_true, Bool.true_and, List.all_eq_true, Config.dfWords]
  intro x hx
  rcases List.mem_or_eq_of_mem_set hx with hx | rfl
  · exact decide_eq_true (wf_slot hm hx)
  · simpa using hs16

/-- The word just stored reads back. -/
theorem readWord_write_same {n : Nat} {m m' : Memory} {s w : Nat} {v : Word} (h : Memory.writeWord n m s w v = .ok m') :
    Memory.readWord n m' s w = .ok v := by
  obtain ⟨hs, hw, slot, hslot, hk, rfl⟩ := writeWord_cases h
  have hl : s < m.length := (List.getElem?_eq_some_iff.mp hslot).1
  simp [Memory.readWord, Config.dfWords, hs, hw, hl, hk]

/-- A store leaves every other word as it was. -/
theorem readWord_write_other {n : Nat} {m m' : Memory} {s w s' w' : Nat} {v : Word}
    (h : Memory.writeWord n m s w v = .ok m') (hne : s' ≠ s ∨ w' ≠ w) :
    Memory.readWord n m' s' w' = Memory.readWord n m s' w' := by
  obtain ⟨-, -, slot, hslot, -, rfl⟩ := writeWord_cases h
  have hl : s < m.length := (List.getElem?_eq_some_iff.mp hslot).1
  unfold Memory.readWord
  by_cases hs : s' = s
  · subst hs
    have hw : w ≠ w' := by rcases hne with h | h; exact absurd rfl h; exact fun e => h e.symm
    rw [List.getElem?_set_self hl, hslot]
    simp [List.getElem?_set_ne hw]
  · rw [List.getElem?_set_ne (fun e => hs e.symm)]

/-- The memory right after reset has the canonical form. -/
theorem reset_wf (p : Params) (d : Dir) : Memory.wf (p.depth d) (Memory.reset p d) = true := by
  simp [Memory.wf, Memory.reset, Config.dfWords]

/-! ### Ring slots -/

theorem writeSlot_lt {r : Ring} {j : Nat} (h : j < r.buf.length) (v : Nat) :
    r.writeSlot j v = .ok { r with buf := r.buf.set j (Reg.of v) } := by
  simp [Ring.writeSlot, h]

theorem writeSlot_cases {r r' : Ring} {j v : Nat} (h : r.writeSlot j v = .ok r') :
    j < r.buf.length ∧ r' = { r with buf := r.buf.set j (Reg.of v) } := by
  unfold Ring.writeSlot at h
  split at h
  · exact ⟨‹_›, by simpa using h.symm⟩
  · cases h

theorem readSlot_cases {r : Ring} {j v : Nat} (h : r.readSlot j = .ok v) :
    ∃ c, r.buf[j]? = some c ∧ c.written = true ∧ c.val = v := by
  unfold Ring.readSlot at h
  split at h
  · exact ⟨_, ‹_›, reg_read_ok h⟩
  · cases h

/-- The element just stored reads back. -/
theorem readSlot_write_same {r r' : Ring} {j v : Nat} (h : r.writeSlot j v = .ok r') : r'.readSlot j = .ok v := by
  obtain ⟨hj, rfl⟩ := writeSlot_cases h
  simp [Ring.readSlot, hj]

/-- A store leaves every other slot as it was. -/
theorem readSlot_write_other {r r' : Ring} {j k v : Nat} (h : r.writeSlot j v = .ok r') (hne : k ≠ j) :
    r'.readSlot k = r.readSlot k := by
  obtain ⟨-, rfl⟩ := writeSlot_cases h
  simp [Ring.readSlot, List.getElem?_set_ne (fun e => hne e.symm)]

end Sys2Proof.Machine
end

