-- ==== Sys2Proof/Laws/State.lean ====
section
/-! SUPPORT. One lemma per field per named update of State: what each update leaves as it was, and what it sets. -/

namespace Sys2Proof.Machine

variable (s : State)

/-! ### observe -/

@[simp] theorem observe_cfg (o : Obs) : (s.observe o).cfg = s.cfg := rfl
@[simp] theorem observe_rings (o : Obs) : (s.observe o).rings = s.rings := rfl
@[simp] theorem observe_cap (o : Obs) : (s.observe o).cap = s.cap := rfl
@[simp] theorem observe_steer (o : Obs) : (s.observe o).steer = s.steer := rfl
@[simp] theorem observe_rx (o : Obs) : (s.observe o).rx = s.rx := rfl
@[simp] theorem observe_tx (o : Obs) : (s.observe o).tx = s.tx := rfl
@[simp] theorem observe_detCnt (o : Obs) : (s.observe o).detCnt = s.detCnt := rfl
@[simp] theorem observe_ft (o : Obs) : (s.observe o).ft = s.ft := rfl
@[simp] theorem observe_realigners (o : Obs) : (s.observe o).realigners = s.realigners := rfl
@[simp] theorem observe_primask (o : Obs) : (s.observe o).primask = s.primask := rfl
@[simp] theorem observe_stats (o : Obs) : (s.observe o).stats = s.stats := rfl
@[simp] theorem observe_isr (o : Obs) : (s.observe o).isr = s.isr := rfl
@[simp] theorem observe_faults (o : Obs) : (s.observe o).faults = s.faults := rfl
@[simp] theorem observe_refused (o : Obs) : (s.observe o).refused = s.refused := rfl
@[simp] theorem observe_poll (o : Obs) : (s.observe o).poll = s.poll := rfl
@[simp] theorem observe_portA (o : Obs) : (s.observe o).portA = s.portA := rfl
@[simp] theorem observe_portB (o : Obs) : (s.observe o).portB = s.portB := rfl
@[simp] theorem observe_agent (o : Obs) : (s.observe o).agent = s.agent := rfl
@[simp] theorem observe_obs (o : Obs) : (s.observe o).obs = o :: s.obs := rfl
@[simp] theorem observe_sched (o : Obs) : (s.observe o).sched = s.sched := rfl
@[simp] theorem observe_evIdx (o : Obs) : (s.observe o).evIdx = s.evIdx := rfl
@[simp] theorem observe_cbItems (o : Obs) : (s.observe o).cbItems = s.cbItems := rfl
@[simp] theorem observe_cbIdx (o : Obs) : (s.observe o).cbIdx = s.cbIdx := rfl
@[simp] theorem observe_freeIdx (o : Obs) : (s.observe o).freeIdx = s.freeIdx := rfl

/-! ### setIsr -/

@[simp] theorem setIsr_cfg (c : IsrCtx) : (s.setIsr c).cfg = s.cfg := rfl
@[simp] theorem setIsr_rings (c : IsrCtx) : (s.setIsr c).rings = s.rings := rfl
@[simp] theorem setIsr_cap (c : IsrCtx) : (s.setIsr c).cap = s.cap := rfl
@[simp] theorem setIsr_steer (c : IsrCtx) : (s.setIsr c).steer = s.steer := rfl
@[simp] theorem setIsr_rx (c : IsrCtx) : (s.setIsr c).rx = s.rx := rfl
@[simp] theorem setIsr_tx (c : IsrCtx) : (s.setIsr c).tx = s.tx := rfl
@[simp] theorem setIsr_detCnt (c : IsrCtx) : (s.setIsr c).detCnt = s.detCnt := rfl
@[simp] theorem setIsr_ft (c : IsrCtx) : (s.setIsr c).ft = s.ft := rfl
@[simp] theorem setIsr_realigners (c : IsrCtx) : (s.setIsr c).realigners = s.realigners := rfl
@[simp] theorem setIsr_primask (c : IsrCtx) : (s.setIsr c).primask = s.primask := rfl
@[simp] theorem setIsr_stats (c : IsrCtx) : (s.setIsr c).stats = s.stats := rfl
@[simp] theorem setIsr_isr (c : IsrCtx) : (s.setIsr c).isr = some c := rfl
@[simp] theorem setIsr_faults (c : IsrCtx) : (s.setIsr c).faults = s.faults := rfl
@[simp] theorem setIsr_refused (c : IsrCtx) : (s.setIsr c).refused = s.refused := rfl
@[simp] theorem setIsr_poll (c : IsrCtx) : (s.setIsr c).poll = s.poll := rfl
@[simp] theorem setIsr_portA (c : IsrCtx) : (s.setIsr c).portA = s.portA := rfl
@[simp] theorem setIsr_portB (c : IsrCtx) : (s.setIsr c).portB = s.portB := rfl
@[simp] theorem setIsr_agent (c : IsrCtx) : (s.setIsr c).agent = s.agent := rfl
@[simp] theorem setIsr_obs (c : IsrCtx) : (s.setIsr c).obs = s.obs := rfl
@[simp] theorem setIsr_sched (c : IsrCtx) : (s.setIsr c).sched = s.sched := rfl
@[simp] theorem setIsr_evIdx (c : IsrCtx) : (s.setIsr c).evIdx = s.evIdx := rfl
@[simp] theorem setIsr_cbItems (c : IsrCtx) : (s.setIsr c).cbItems = s.cbItems := rfl
@[simp] theorem setIsr_cbIdx (c : IsrCtx) : (s.setIsr c).cbIdx = s.cbIdx := rfl
@[simp] theorem setIsr_freeIdx (c : IsrCtx) : (s.setIsr c).freeIdx = s.freeIdx := rfl

/-! ### enterHandler -/

@[simp] theorem enterHandler_cfg (h : Handler) : (s.enterHandler h).cfg = s.cfg := rfl
@[simp] theorem enterHandler_rings (h : Handler) : (s.enterHandler h).rings = s.rings := rfl
@[simp] theorem enterHandler_cap (h : Handler) : (s.enterHandler h).cap = s.cap := rfl
@[simp] theorem enterHandler_steer (h : Handler) : (s.enterHandler h).steer = s.steer := rfl
@[simp] theorem enterHandler_rx (h : Handler) : (s.enterHandler h).rx = s.rx := rfl
@[simp] theorem enterHandler_tx (h : Handler) : (s.enterHandler h).tx = s.tx := rfl
@[simp] theorem enterHandler_detCnt (h : Handler) : (s.enterHandler h).detCnt = s.detCnt := rfl
@[simp] theorem enterHandler_ft (h : Handler) : (s.enterHandler h).ft = s.ft := rfl
@[simp] theorem enterHandler_realigners (h : Handler) : (s.enterHandler h).realigners = s.realigners := rfl
@[simp] theorem enterHandler_primask (h : Handler) : (s.enterHandler h).primask = s.primask := rfl
@[simp] theorem enterHandler_stats (h : Handler) : (s.enterHandler h).stats = s.stats := rfl
@[simp] theorem enterHandler_isr (h : Handler) : (s.enterHandler h).isr = some (IsrCtx.enter h) := rfl
@[simp] theorem enterHandler_faults (h : Handler) : (s.enterHandler h).faults = s.faults := rfl
@[simp] theorem enterHandler_refused (h : Handler) : (s.enterHandler h).refused = s.refused := rfl
@[simp] theorem enterHandler_poll (h : Handler) : (s.enterHandler h).poll = s.poll := rfl
@[simp] theorem enterHandler_portA (h : Handler) : (s.enterHandler h).portA = s.portA := rfl
@[simp] theorem enterHandler_portB (h : Handler) : (s.enterHandler h).portB = s.portB := rfl
@[simp] theorem enterHandler_agent (h : Handler) : (s.enterHandler h).agent = s.agent := rfl
@[simp] theorem enterHandler_obs (h : Handler) : (s.enterHandler h).obs = s.obs := rfl
@[simp] theorem enterHandler_sched (h : Handler) : (s.enterHandler h).sched = s.sched := rfl
@[simp] theorem enterHandler_evIdx (h : Handler) : (s.enterHandler h).evIdx = s.evIdx := rfl
@[simp] theorem enterHandler_cbItems (h : Handler) : (s.enterHandler h).cbItems = s.cbItems := rfl
@[simp] theorem enterHandler_cbIdx (h : Handler) : (s.enterHandler h).cbIdx = s.cbIdx := rfl
@[simp] theorem enterHandler_freeIdx (h : Handler) : (s.enterHandler h).freeIdx = s.freeIdx := rfl

/-! ### leaveHandler -/

@[simp] theorem leaveHandler_cfg (i : Instr) (r : Result) : (s.leaveHandler i r).cfg = s.cfg := rfl
@[simp] theorem leaveHandler_rings (i : Instr) (r : Result) : (s.leaveHandler i r).rings = s.rings := rfl
@[simp] theorem leaveHandler_cap (i : Instr) (r : Result) : (s.leaveHandler i r).cap = s.cap := rfl
@[simp] theorem leaveHandler_steer (i : Instr) (r : Result) : (s.leaveHandler i r).steer = s.steer := rfl
@[simp] theorem leaveHandler_rx (i : Instr) (r : Result) : (s.leaveHandler i r).rx = s.rx := rfl
@[simp] theorem leaveHandler_tx (i : Instr) (r : Result) : (s.leaveHandler i r).tx = s.tx := rfl
@[simp] theorem leaveHandler_detCnt (i : Instr) (r : Result) : (s.leaveHandler i r).detCnt = s.detCnt := rfl
@[simp] theorem leaveHandler_ft (i : Instr) (r : Result) : (s.leaveHandler i r).ft = s.ft := rfl
@[simp] theorem leaveHandler_realigners (i : Instr) (r : Result) : (s.leaveHandler i r).realigners = s.realigners := rfl
@[simp] theorem leaveHandler_primask (i : Instr) (r : Result) : (s.leaveHandler i r).primask = s.primask := rfl
@[simp] theorem leaveHandler_stats (i : Instr) (r : Result) : (s.leaveHandler i r).stats = s.stats := rfl
@[simp] theorem leaveHandler_isr (i : Instr) (r : Result) : (s.leaveHandler i r).isr = none := rfl
@[simp] theorem leaveHandler_faults (i : Instr) (r : Result) : (s.leaveHandler i r).faults = s.faults := rfl
@[simp] theorem leaveHandler_refused (i : Instr) (r : Result) : (s.leaveHandler i r).refused = s.refused := rfl
@[simp] theorem leaveHandler_poll (i : Instr) (r : Result) : (s.leaveHandler i r).poll = s.poll := rfl
@[simp] theorem leaveHandler_portA (i : Instr) (r : Result) : (s.leaveHandler i r).portA = s.portA := rfl
@[simp] theorem leaveHandler_portB (i : Instr) (r : Result) : (s.leaveHandler i r).portB = s.portB := rfl
@[simp] theorem leaveHandler_agent (i : Instr) (r : Result) : (s.leaveHandler i r).agent = s.agent := rfl
@[simp] theorem leaveHandler_obs (i : Instr) (r : Result) : (s.leaveHandler i r).obs = .trace i r :: s.obs := rfl
@[simp] theorem leaveHandler_sched (i : Instr) (r : Result) : (s.leaveHandler i r).sched = s.sched := rfl
@[simp] theorem leaveHandler_evIdx (i : Instr) (r : Result) : (s.leaveHandler i r).evIdx = s.evIdx := rfl
@[simp] theorem leaveHandler_cbItems (i : Instr) (r : Result) : (s.leaveHandler i r).cbItems = s.cbItems := rfl
@[simp] theorem leaveHandler_cbIdx (i : Instr) (r : Result) : (s.leaveHandler i r).cbIdx = s.cbIdx := rfl
@[simp] theorem leaveHandler_freeIdx (i : Instr) (r : Result) : (s.leaveHandler i r).freeIdx = s.freeIdx := rfl

/-! ### mark -/

@[simp] theorem mark_cfg (r : Fault) : (s.mark r).cfg = s.cfg := rfl
@[simp] theorem mark_rings (r : Fault) : (s.mark r).rings = s.rings := rfl
@[simp] theorem mark_cap (r : Fault) : (s.mark r).cap = s.cap := rfl
@[simp] theorem mark_steer (r : Fault) : (s.mark r).steer = s.steer := rfl
@[simp] theorem mark_rx (r : Fault) : (s.mark r).rx = s.rx := rfl
@[simp] theorem mark_tx (r : Fault) : (s.mark r).tx = s.tx := rfl
@[simp] theorem mark_detCnt (r : Fault) : (s.mark r).detCnt = s.detCnt := rfl
@[simp] theorem mark_ft (r : Fault) : (s.mark r).ft = s.ft := rfl
@[simp] theorem mark_realigners (r : Fault) : (s.mark r).realigners = s.realigners := rfl
@[simp] theorem mark_primask (r : Fault) : (s.mark r).primask = s.primask := rfl
@[simp] theorem mark_stats (r : Fault) : (s.mark r).stats = s.stats := rfl
@[simp] theorem mark_isr (r : Fault) : (s.mark r).isr = s.isr := rfl
@[simp] theorem mark_faults (r : Fault) : (s.mark r).faults = if r ∈ s.faults then s.faults else r :: s.faults := rfl
@[simp] theorem mark_refused (r : Fault) : (s.mark r).refused = s.refused := rfl
@[simp] theorem mark_poll (r : Fault) : (s.mark r).poll = s.poll := rfl
@[simp] theorem mark_portA (r : Fault) : (s.mark r).portA = s.portA := rfl
@[simp] theorem mark_portB (r : Fault) : (s.mark r).portB = s.portB := rfl
@[simp] theorem mark_agent (r : Fault) : (s.mark r).agent = s.agent := rfl
@[simp] theorem mark_obs (r : Fault) : (s.mark r).obs = s.obs := rfl
@[simp] theorem mark_sched (r : Fault) : (s.mark r).sched = s.sched := rfl
@[simp] theorem mark_evIdx (r : Fault) : (s.mark r).evIdx = s.evIdx := rfl
@[simp] theorem mark_cbItems (r : Fault) : (s.mark r).cbItems = s.cbItems := rfl
@[simp] theorem mark_cbIdx (r : Fault) : (s.mark r).cbIdx = s.cbIdx := rfl
@[simp] theorem mark_freeIdx (r : Fault) : (s.mark r).freeIdx = s.freeIdx := rfl

/-! ### takeEvent -/

@[simp] theorem takeEvent_cfg : (s.takeEvent).cfg = s.cfg := rfl
@[simp] theorem takeEvent_rings : (s.takeEvent).rings = s.rings := rfl
@[simp] theorem takeEvent_cap : (s.takeEvent).cap = s.cap := rfl
@[simp] theorem takeEvent_steer : (s.takeEvent).steer = s.steer := rfl
@[simp] theorem takeEvent_rx : (s.takeEvent).rx = s.rx := rfl
@[simp] theorem takeEvent_tx : (s.takeEvent).tx = s.tx := rfl
@[simp] theorem takeEvent_detCnt : (s.takeEvent).detCnt = s.detCnt := rfl
@[simp] theorem takeEvent_ft : (s.takeEvent).ft = s.ft := rfl
@[simp] theorem takeEvent_realigners : (s.takeEvent).realigners = s.realigners := rfl
@[simp] theorem takeEvent_primask : (s.takeEvent).primask = s.primask := rfl
@[simp] theorem takeEvent_stats : (s.takeEvent).stats = s.stats := rfl
@[simp] theorem takeEvent_isr : (s.takeEvent).isr = s.isr := rfl
@[simp] theorem takeEvent_faults : (s.takeEvent).faults = s.faults := rfl
@[simp] theorem takeEvent_refused : (s.takeEvent).refused = s.refused := rfl
@[simp] theorem takeEvent_poll : (s.takeEvent).poll = s.poll := rfl
@[simp] theorem takeEvent_portA : (s.takeEvent).portA = s.portA := rfl
@[simp] theorem takeEvent_portB : (s.takeEvent).portB = s.portB := rfl
@[simp] theorem takeEvent_agent : (s.takeEvent).agent = s.agent := rfl
@[simp] theorem takeEvent_obs : (s.takeEvent).obs = s.obs := rfl
@[simp] theorem takeEvent_sched : (s.takeEvent).sched = s.sched.tail := rfl
@[simp] theorem takeEvent_evIdx : (s.takeEvent).evIdx = s.evIdx + 1 := rfl
@[simp] theorem takeEvent_cbItems : (s.takeEvent).cbItems = s.cbItems := rfl
@[simp] theorem takeEvent_cbIdx : (s.takeEvent).cbIdx = s.cbIdx := rfl
@[simp] theorem takeEvent_freeIdx : (s.takeEvent).freeIdx = s.freeIdx := rfl

/-! ### issue -/

@[simp] theorem issue_cfg (a : Agent) (o : IssuedOp) : (s.issue a o).cfg = s.cfg := rfl
@[simp] theorem issue_rings (a : Agent) (o : IssuedOp) : (s.issue a o).rings = s.rings := rfl
@[simp] theorem issue_cap (a : Agent) (o : IssuedOp) : (s.issue a o).cap = s.cap := rfl
@[simp] theorem issue_steer (a : Agent) (o : IssuedOp) : (s.issue a o).steer = s.steer := rfl
@[simp] theorem issue_rx (a : Agent) (o : IssuedOp) : (s.issue a o).rx = s.rx := rfl
@[simp] theorem issue_tx (a : Agent) (o : IssuedOp) : (s.issue a o).tx = s.tx := rfl
@[simp] theorem issue_detCnt (a : Agent) (o : IssuedOp) : (s.issue a o).detCnt = s.detCnt := rfl
@[simp] theorem issue_ft (a : Agent) (o : IssuedOp) : (s.issue a o).ft = s.ft := rfl
@[simp] theorem issue_realigners (a : Agent) (o : IssuedOp) : (s.issue a o).realigners = s.realigners := rfl
@[simp] theorem issue_primask (a : Agent) (o : IssuedOp) : (s.issue a o).primask = s.primask := rfl
@[simp] theorem issue_stats (a : Agent) (o : IssuedOp) : (s.issue a o).stats = s.stats := rfl
@[simp] theorem issue_isr (a : Agent) (o : IssuedOp) : (s.issue a o).isr = s.isr := rfl
@[simp] theorem issue_faults (a : Agent) (o : IssuedOp) : (s.issue a o).faults = s.faults := rfl
@[simp] theorem issue_refused (a : Agent) (o : IssuedOp) : (s.issue a o).refused = s.refused := rfl
@[simp] theorem issue_poll (a : Agent) (o : IssuedOp) : (s.issue a o).poll = s.poll := rfl
@[simp] theorem issue_portA (a : Agent) (o : IssuedOp) : (s.issue a o).portA = o.a := rfl
@[simp] theorem issue_portB (a : Agent) (o : IssuedOp) : (s.issue a o).portB = o.b := rfl
@[simp] theorem issue_agent (a : Agent) (o : IssuedOp) : (s.issue a o).agent = a := rfl
@[simp] theorem issue_obs (a : Agent) (o : IssuedOp) : (s.issue a o).obs = s.obs := rfl
@[simp] theorem issue_sched (a : Agent) (o : IssuedOp) : (s.issue a o).sched = s.sched := rfl
@[simp] theorem issue_evIdx (a : Agent) (o : IssuedOp) : (s.issue a o).evIdx = s.evIdx := rfl
@[simp] theorem issue_cbItems (a : Agent) (o : IssuedOp) : (s.issue a o).cbItems = s.cbItems := rfl
@[simp] theorem issue_cbIdx (a : Agent) (o : IssuedOp) : (s.issue a o).cbIdx = s.cbIdx := rfl
@[simp] theorem issue_freeIdx (a : Agent) (o : IssuedOp) : (s.issue a o).freeIdx = s.freeIdx := rfl

/-! ### setRing -/

@[simp] theorem setRing_cfg (i : Nat) (r : Ring) : (s.setRing i r).cfg = s.cfg := rfl
@[simp] theorem setRing_rings (i : Nat) (r : Ring) : (s.setRing i r).rings = s.rings.set i r := rfl
@[simp] theorem setRing_cap (i : Nat) (r : Ring) : (s.setRing i r).cap = s.cap := rfl
@[simp] theorem setRing_steer (i : Nat) (r : Ring) : (s.setRing i r).steer = s.steer := rfl
@[simp] theorem setRing_rx (i : Nat) (r : Ring) : (s.setRing i r).rx = s.rx := rfl
@[simp] theorem setRing_tx (i : Nat) (r : Ring) : (s.setRing i r).tx = s.tx := rfl
@[simp] theorem setRing_detCnt (i : Nat) (r : Ring) : (s.setRing i r).detCnt = s.detCnt := rfl
@[simp] theorem setRing_ft (i : Nat) (r : Ring) : (s.setRing i r).ft = s.ft := rfl
@[simp] theorem setRing_realigners (i : Nat) (r : Ring) : (s.setRing i r).realigners = s.realigners := rfl
@[simp] theorem setRing_primask (i : Nat) (r : Ring) : (s.setRing i r).primask = s.primask := rfl
@[simp] theorem setRing_stats (i : Nat) (r : Ring) : (s.setRing i r).stats = s.stats := rfl
@[simp] theorem setRing_isr (i : Nat) (r : Ring) : (s.setRing i r).isr = s.isr := rfl
@[simp] theorem setRing_faults (i : Nat) (r : Ring) : (s.setRing i r).faults = s.faults := rfl
@[simp] theorem setRing_refused (i : Nat) (r : Ring) : (s.setRing i r).refused = s.refused := rfl
@[simp] theorem setRing_poll (i : Nat) (r : Ring) : (s.setRing i r).poll = s.poll := rfl
@[simp] theorem setRing_portA (i : Nat) (r : Ring) : (s.setRing i r).portA = s.portA := rfl
@[simp] theorem setRing_portB (i : Nat) (r : Ring) : (s.setRing i r).portB = s.portB := rfl
@[simp] theorem setRing_agent (i : Nat) (r : Ring) : (s.setRing i r).agent = s.agent := rfl
@[simp] theorem setRing_obs (i : Nat) (r : Ring) : (s.setRing i r).obs = s.obs := rfl
@[simp] theorem setRing_sched (i : Nat) (r : Ring) : (s.setRing i r).sched = s.sched := rfl
@[simp] theorem setRing_evIdx (i : Nat) (r : Ring) : (s.setRing i r).evIdx = s.evIdx := rfl
@[simp] theorem setRing_cbItems (i : Nat) (r : Ring) : (s.setRing i r).cbItems = s.cbItems := rfl
@[simp] theorem setRing_cbIdx (i : Nat) (r : Ring) : (s.setRing i r).cbIdx = s.cbIdx := rfl
@[simp] theorem setRing_freeIdx (i : Nat) (r : Ring) : (s.setRing i r).freeIdx = s.freeIdx := rfl

/-! ### setRealigner -/

@[simp] theorem setRealigner_cfg (i : Nat) (r : Realigner) : (s.setRealigner i r).cfg = s.cfg := rfl
@[simp] theorem setRealigner_rings (i : Nat) (r : Realigner) : (s.setRealigner i r).rings = s.rings := rfl
@[simp] theorem setRealigner_cap (i : Nat) (r : Realigner) : (s.setRealigner i r).cap = s.cap := rfl
@[simp] theorem setRealigner_steer (i : Nat) (r : Realigner) : (s.setRealigner i r).steer = s.steer := rfl
@[simp] theorem setRealigner_rx (i : Nat) (r : Realigner) : (s.setRealigner i r).rx = s.rx := rfl
@[simp] theorem setRealigner_tx (i : Nat) (r : Realigner) : (s.setRealigner i r).tx = s.tx := rfl
@[simp] theorem setRealigner_detCnt (i : Nat) (r : Realigner) : (s.setRealigner i r).detCnt = s.detCnt := rfl
@[simp] theorem setRealigner_ft (i : Nat) (r : Realigner) : (s.setRealigner i r).ft = s.ft := rfl
@[simp] theorem setRealigner_realigners (i : Nat) (r : Realigner) : (s.setRealigner i r).realigners = s.realigners.set i r := rfl
@[simp] theorem setRealigner_primask (i : Nat) (r : Realigner) : (s.setRealigner i r).primask = s.primask := rfl
@[simp] theorem setRealigner_stats (i : Nat) (r : Realigner) : (s.setRealigner i r).stats = s.stats := rfl
@[simp] theorem setRealigner_isr (i : Nat) (r : Realigner) : (s.setRealigner i r).isr = s.isr := rfl
@[simp] theorem setRealigner_faults (i : Nat) (r : Realigner) : (s.setRealigner i r).faults = s.faults := rfl
@[simp] theorem setRealigner_refused (i : Nat) (r : Realigner) : (s.setRealigner i r).refused = s.refused := rfl
@[simp] theorem setRealigner_poll (i : Nat) (r : Realigner) : (s.setRealigner i r).poll = s.poll := rfl
@[simp] theorem setRealigner_portA (i : Nat) (r : Realigner) : (s.setRealigner i r).portA = s.portA := rfl
@[simp] theorem setRealigner_portB (i : Nat) (r : Realigner) : (s.setRealigner i r).portB = s.portB := rfl
@[simp] theorem setRealigner_agent (i : Nat) (r : Realigner) : (s.setRealigner i r).agent = s.agent := rfl
@[simp] theorem setRealigner_obs (i : Nat) (r : Realigner) : (s.setRealigner i r).obs = s.obs := rfl
@[simp] theorem setRealigner_sched (i : Nat) (r : Realigner) : (s.setRealigner i r).sched = s.sched := rfl
@[simp] theorem setRealigner_evIdx (i : Nat) (r : Realigner) : (s.setRealigner i r).evIdx = s.evIdx := rfl
@[simp] theorem setRealigner_cbItems (i : Nat) (r : Realigner) : (s.setRealigner i r).cbItems = s.cbItems := rfl
@[simp] theorem setRealigner_cbIdx (i : Nat) (r : Realigner) : (s.setRealigner i r).cbIdx = s.cbIdx := rfl
@[simp] theorem setRealigner_freeIdx (i : Nat) (r : Realigner) : (s.setRealigner i r).freeIdx = s.freeIdx := rfl

/-! ### setXch -/

@[simp] theorem setXch_cfg (d : Dir) (e : Exchange) : (s.setXch d e).cfg = s.cfg := by cases d <;> rfl
@[simp] theorem setXch_rings (d : Dir) (e : Exchange) : (s.setXch d e).rings = s.rings := by cases d <;> rfl
@[simp] theorem setXch_cap (d : Dir) (e : Exchange) : (s.setXch d e).cap = s.cap := by cases d <;> rfl
@[simp] theorem setXch_steer (d : Dir) (e : Exchange) : (s.setXch d e).steer = s.steer := by cases d <;> rfl
@[simp] theorem setXch_detCnt (d : Dir) (e : Exchange) : (s.setXch d e).detCnt = s.detCnt := by cases d <;> rfl
@[simp] theorem setXch_ft (d : Dir) (e : Exchange) : (s.setXch d e).ft = s.ft := by cases d <;> rfl
@[simp] theorem setXch_realigners (d : Dir) (e : Exchange) : (s.setXch d e).realigners = s.realigners := by cases d <;> rfl
@[simp] theorem setXch_primask (d : Dir) (e : Exchange) : (s.setXch d e).primask = s.primask := by cases d <;> rfl
@[simp] theorem setXch_stats (d : Dir) (e : Exchange) : (s.setXch d e).stats = s.stats := by cases d <;> rfl
@[simp] theorem setXch_isr (d : Dir) (e : Exchange) : (s.setXch d e).isr = s.isr := by cases d <;> rfl
@[simp] theorem setXch_faults (d : Dir) (e : Exchange) : (s.setXch d e).faults = s.faults := by cases d <;> rfl
@[simp] theorem setXch_refused (d : Dir) (e : Exchange) : (s.setXch d e).refused = s.refused := by cases d <;> rfl
@[simp] theorem setXch_poll (d : Dir) (e : Exchange) : (s.setXch d e).poll = s.poll := by cases d <;> rfl
@[simp] theorem setXch_portA (d : Dir) (e : Exchange) : (s.setXch d e).portA = s.portA := by cases d <;> rfl
@[simp] theorem setXch_portB (d : Dir) (e : Exchange) : (s.setXch d e).portB = s.portB := by cases d <;> rfl
@[simp] theorem setXch_agent (d : Dir) (e : Exchange) : (s.setXch d e).agent = s.agent := by cases d <;> rfl
@[simp] theorem setXch_obs (d : Dir) (e : Exchange) : (s.setXch d e).obs = s.obs := by cases d <;> rfl
@[simp] theorem setXch_sched (d : Dir) (e : Exchange) : (s.setXch d e).sched = s.sched := by cases d <;> rfl
@[simp] theorem setXch_evIdx (d : Dir) (e : Exchange) : (s.setXch d e).evIdx = s.evIdx := by cases d <;> rfl
@[simp] theorem setXch_cbItems (d : Dir) (e : Exchange) : (s.setXch d e).cbItems = s.cbItems := by cases d <;> rfl
@[simp] theorem setXch_cbIdx (d : Dir) (e : Exchange) : (s.setXch d e).cbIdx = s.cbIdx := by cases d <;> rfl
@[simp] theorem setXch_freeIdx (d : Dir) (e : Exchange) : (s.setXch d e).freeIdx = s.freeIdx := by cases d <;> rfl

/-! ### setStage -/

@[simp] theorem setStage_cfg (st : RbStage) : (s.setStage st).cfg = s.cfg := by unfold State.setStage; (repeat' split) <;> rfl
@[simp] theorem setStage_rings (st : RbStage) : (s.setStage st).rings = s.rings := by unfold State.setStage; (repeat' split) <;> rfl
@[simp] theorem setStage_cap (st : RbStage) : (s.setStage st).cap = s.cap := by unfold State.setStage; (repeat' split) <;> rfl
@[simp] theorem setStage_steer (st : RbStage) : (s.setStage st).steer = s.steer := by unfold State.setStage; (repeat' split) <;> rfl
@[simp] theorem setStage_rx (st : RbStage) : (s.setStage st).rx = s.rx := by unfold State.setStage; (repeat' split) <;> rfl
@[simp] theorem setStage_tx (st : RbStage) : (s.setStage st).tx = s.tx := by unfold State.setStage; (repeat' split) <;> rfl
@[simp] theorem setStage_detCnt (st : RbStage) : (s.setStage st).detCnt = s.detCnt := by unfold State.setStage; (repeat' split) <;> rfl
@[simp] theorem setStage_ft (st : RbStage) : (s.setStage st).ft = s.ft := by unfold State.setStage; (repeat' split) <;> rfl
@[simp] theorem setStage_realigners (st : RbStage) : (s.setStage st).realigners = s.realigners := by unfold State.setStage; (repeat' split) <;> rfl
@[simp] theorem setStage_primask (st : RbStage) : (s.setStage st).primask = s.primask := by unfold State.setStage; (repeat' split) <;> rfl
@[simp] theorem setStage_stats (st : RbStage) : (s.setStage st).stats = s.stats := by unfold State.setStage; (repeat' split) <;> rfl
@[simp] theorem setStage_faults (st : RbStage) : (s.setStage st).faults = s.faults := by unfold State.setStage; (repeat' split) <;> rfl
@[simp] theorem setStage_refused (st : RbStage) : (s.setStage st).refused = s.refused := by unfold State.setStage; (repeat' split) <;> rfl
@[simp] theorem setStage_portA (st : RbStage) : (s.setStage st).portA = s.portA := by unfold State.setStage; (repeat' split) <;> rfl
@[simp] theorem setStage_portB (st : RbStage) : (s.setStage st).portB = s.portB := by unfold State.setStage; (repeat' split) <;> rfl
@[simp] theorem setStage_agent (st : RbStage) : (s.setStage st).agent = s.agent := by unfold State.setStage; (repeat' split) <;> rfl
@[simp] theorem setStage_obs (st : RbStage) : (s.setStage st).obs = s.obs := by unfold State.setStage; (repeat' split) <;> rfl
@[simp] theorem setStage_sched (st : RbStage) : (s.setStage st).sched = s.sched := by unfold State.setStage; (repeat' split) <;> rfl
@[simp] theorem setStage_evIdx (st : RbStage) : (s.setStage st).evIdx = s.evIdx := by unfold State.setStage; (repeat' split) <;> rfl
@[simp] theorem setStage_cbItems (st : RbStage) : (s.setStage st).cbItems = s.cbItems := by unfold State.setStage; (repeat' split) <;> rfl
@[simp] theorem setStage_cbIdx (st : RbStage) : (s.setStage st).cbIdx = s.cbIdx := by unfold State.setStage; (repeat' split) <;> rfl
@[simp] theorem setStage_freeIdx (st : RbStage) : (s.setStage st).freeIdx = s.freeIdx := by unfold State.setStage; (repeat' split) <;> rfl

/-! ### advance -/

@[simp] theorem advance_cfg : (s.advance).cfg = s.cfg := by unfold State.advance; (repeat' split) <;> simp
@[simp] theorem advance_rings : (s.advance).rings = s.rings := by unfold State.advance; (repeat' split) <;> simp
@[simp] theorem advance_cap : (s.advance).cap = s.cap := by unfold State.advance; (repeat' split) <;> simp
@[simp] theorem advance_steer : (s.advance).steer = s.steer := by unfold State.advance; (repeat' split) <;> simp
@[simp] theorem advance_rx : (s.advance).rx = s.rx := by unfold State.advance; (repeat' split) <;> simp
@[simp] theorem advance_tx : (s.advance).tx = s.tx := by unfold State.advance; (repeat' split) <;> simp
@[simp] theorem advance_detCnt : (s.advance).detCnt = s.detCnt := by unfold State.advance; (repeat' split) <;> simp
@[simp] theorem advance_ft : (s.advance).ft = s.ft := by unfold State.advance; (repeat' split) <;> simp
@[simp] theorem advance_realigners : (s.advance).realigners = s.realigners := by unfold State.advance; (repeat' split) <;> simp
@[simp] theorem advance_primask : (s.advance).primask = s.primask := by unfold State.advance; (repeat' split) <;> simp
@[simp] theorem advance_stats : (s.advance).stats = s.stats := by unfold State.advance; (repeat' split) <;> simp
@[simp] theorem advance_faults : (s.advance).faults = s.faults := by unfold State.advance; (repeat' split) <;> simp
@[simp] theorem advance_refused : (s.advance).refused = s.refused := by unfold State.advance; (repeat' split) <;> simp
@[simp] theorem advance_portA : (s.advance).portA = s.portA := by unfold State.advance; (repeat' split) <;> simp
@[simp] theorem advance_portB : (s.advance).portB = s.portB := by unfold State.advance; (repeat' split) <;> simp
@[simp] theorem advance_agent : (s.advance).agent = s.agent := by unfold State.advance; (repeat' split) <;> simp
@[simp] theorem advance_obs : (s.advance).obs = s.obs := by unfold State.advance; (repeat' split) <;> simp
@[simp] theorem advance_sched : (s.advance).sched = s.sched := by unfold State.advance; (repeat' split) <;> simp
@[simp] theorem advance_evIdx : (s.advance).evIdx = s.evIdx := by unfold State.advance; (repeat' split) <;> simp
@[simp] theorem advance_freeIdx : (s.advance).freeIdx = s.freeIdx := by unfold State.advance; (repeat' split) <;> simp

/-! ### complete -/

@[simp] theorem complete_cfg (r : Result) : (s.complete r).cfg = s.cfg := by simp [State.complete]
@[simp] theorem complete_rings (r : Result) : (s.complete r).rings = s.rings := by simp [State.complete]
@[simp] theorem complete_cap (r : Result) : (s.complete r).cap = s.cap := by simp [State.complete]
@[simp] theorem complete_steer (r : Result) : (s.complete r).steer = s.steer := by simp [State.complete]
@[simp] theorem complete_rx (r : Result) : (s.complete r).rx = s.rx := by simp [State.complete]
@[simp] theorem complete_tx (r : Result) : (s.complete r).tx = s.tx := by simp [State.complete]
@[simp] theorem complete_detCnt (r : Result) : (s.complete r).detCnt = s.detCnt := by simp [State.complete]
@[simp] theorem complete_ft (r : Result) : (s.complete r).ft = s.ft := by simp [State.complete]
@[simp] theorem complete_realigners (r : Result) : (s.complete r).realigners = s.realigners := by simp [State.complete]
@[simp] theorem complete_primask (r : Result) : (s.complete r).primask = s.primask := by simp [State.complete]
@[simp] theorem complete_stats (r : Result) : (s.complete r).stats = s.stats := by simp [State.complete]
@[simp] theorem complete_faults (r : Result) : (s.complete r).faults = s.faults := by simp [State.complete]
@[simp] theorem complete_refused (r : Result) : (s.complete r).refused = s.refused := by simp [State.complete]
@[simp] theorem complete_portA (r : Result) : (s.complete r).portA = s.portA := by simp [State.complete]
@[simp] theorem complete_portB (r : Result) : (s.complete r).portB = s.portB := by simp [State.complete]
@[simp] theorem complete_agent (r : Result) : (s.complete r).agent = s.agent := by simp [State.complete]
@[simp] theorem complete_obs (r : Result) : (s.complete r).obs = .result s.agent r :: s.obs := by simp [State.complete]
@[simp] theorem complete_sched (r : Result) : (s.complete r).sched = s.sched := by simp [State.complete]
@[simp] theorem complete_evIdx (r : Result) : (s.complete r).evIdx = s.evIdx := by simp [State.complete]
@[simp] theorem complete_freeIdx (r : Result) : (s.complete r).freeIdx = s.freeIdx := by simp [State.complete]

/-! ### refuse -/

@[simp] theorem refuse_cfg : (s.refuse).cfg = s.cfg := by simp [State.refuse]
@[simp] theorem refuse_rings : (s.refuse).rings = s.rings := by simp [State.refuse]
@[simp] theorem refuse_cap : (s.refuse).cap = s.cap := by simp [State.refuse]
@[simp] theorem refuse_steer : (s.refuse).steer = s.steer := by simp [State.refuse]
@[simp] theorem refuse_rx : (s.refuse).rx = s.rx := by simp [State.refuse]
@[simp] theorem refuse_tx : (s.refuse).tx = s.tx := by simp [State.refuse]
@[simp] theorem refuse_detCnt : (s.refuse).detCnt = s.detCnt := by simp [State.refuse]
@[simp] theorem refuse_ft : (s.refuse).ft = s.ft := by simp [State.refuse]
@[simp] theorem refuse_realigners : (s.refuse).realigners = s.realigners := by simp [State.refuse]
@[simp] theorem refuse_primask : (s.refuse).primask = s.primask := by simp [State.refuse]
@[simp] theorem refuse_stats : (s.refuse).stats = s.stats := by simp [State.refuse]
@[simp] theorem refuse_faults : (s.refuse).faults = s.faults := by simp [State.refuse]
@[simp] theorem refuse_refused : (s.refuse).refused = true := by simp [State.refuse]
@[simp] theorem refuse_portA : (s.refuse).portA = s.portA := by simp [State.refuse]
@[simp] theorem refuse_portB : (s.refuse).portB = s.portB := by simp [State.refuse]
@[simp] theorem refuse_agent : (s.refuse).agent = s.agent := by simp [State.refuse]
@[simp] theorem refuse_obs : (s.refuse).obs = s.obs := by simp [State.refuse]
@[simp] theorem refuse_sched : (s.refuse).sched = s.sched := by simp [State.refuse]
@[simp] theorem refuse_evIdx : (s.refuse).evIdx = s.evIdx := by simp [State.refuse]
@[simp] theorem refuse_freeIdx : (s.refuse).freeIdx = s.freeIdx := by simp [State.refuse]

/-! ### leaveExchange -/

@[simp] theorem leaveExchange_cfg (c : IsrCtx) : (s.leaveExchange c).cfg = s.cfg := by unfold State.leaveExchange; split <;> rfl
@[simp] theorem leaveExchange_rings (c : IsrCtx) : (s.leaveExchange c).rings = s.rings := by unfold State.leaveExchange; split <;> rfl
@[simp] theorem leaveExchange_cap (c : IsrCtx) : (s.leaveExchange c).cap = s.cap := by unfold State.leaveExchange; split <;> rfl
@[simp] theorem leaveExchange_steer (c : IsrCtx) : (s.leaveExchange c).steer = s.steer := by unfold State.leaveExchange; split <;> rfl
@[simp] theorem leaveExchange_rx (c : IsrCtx) : (s.leaveExchange c).rx = s.rx := by unfold State.leaveExchange; split <;> rfl
@[simp] theorem leaveExchange_tx (c : IsrCtx) : (s.leaveExchange c).tx = s.tx := by unfold State.leaveExchange; split <;> rfl
@[simp] theorem leaveExchange_detCnt (c : IsrCtx) : (s.leaveExchange c).detCnt = s.detCnt := by unfold State.leaveExchange; split <;> rfl
@[simp] theorem leaveExchange_ft (c : IsrCtx) : (s.leaveExchange c).ft = s.ft := by unfold State.leaveExchange; split <;> rfl
@[simp] theorem leaveExchange_realigners (c : IsrCtx) : (s.leaveExchange c).realigners = s.realigners := by unfold State.leaveExchange; split <;> rfl
@[simp] theorem leaveExchange_primask (c : IsrCtx) : (s.leaveExchange c).primask = s.primask := by unfold State.leaveExchange; split <;> rfl
@[simp] theorem leaveExchange_stats (c : IsrCtx) : (s.leaveExchange c).stats = s.stats := by unfold State.leaveExchange; split <;> rfl
@[simp] theorem leaveExchange_isr (c : IsrCtx) : (s.leaveExchange c).isr = none := by unfold State.leaveExchange; split <;> rfl
@[simp] theorem leaveExchange_faults (c : IsrCtx) : (s.leaveExchange c).faults = s.faults := by unfold State.leaveExchange; split <;> rfl
@[simp] theorem leaveExchange_refused (c : IsrCtx) : (s.leaveExchange c).refused = s.refused := by unfold State.leaveExchange; split <;> rfl
@[simp] theorem leaveExchange_poll (c : IsrCtx) : (s.leaveExchange c).poll = s.poll := by unfold State.leaveExchange; split <;> rfl
@[simp] theorem leaveExchange_portA (c : IsrCtx) : (s.leaveExchange c).portA = s.portA := by unfold State.leaveExchange; split <;> rfl
@[simp] theorem leaveExchange_portB (c : IsrCtx) : (s.leaveExchange c).portB = s.portB := by unfold State.leaveExchange; split <;> rfl
@[simp] theorem leaveExchange_agent (c : IsrCtx) : (s.leaveExchange c).agent = s.agent := by unfold State.leaveExchange; split <;> rfl
@[simp] theorem leaveExchange_sched (c : IsrCtx) : (s.leaveExchange c).sched = s.sched := by unfold State.leaveExchange; split <;> rfl
@[simp] theorem leaveExchange_evIdx (c : IsrCtx) : (s.leaveExchange c).evIdx = s.evIdx := by unfold State.leaveExchange; split <;> rfl
@[simp] theorem leaveExchange_cbItems (c : IsrCtx) : (s.leaveExchange c).cbItems = s.cbItems := by unfold State.leaveExchange; split <;> rfl
@[simp] theorem leaveExchange_cbIdx (c : IsrCtx) : (s.leaveExchange c).cbIdx = s.cbIdx := by unfold State.leaveExchange; split <;> rfl
@[simp] theorem leaveExchange_freeIdx (c : IsrCtx) : (s.leaveExchange c).freeIdx = s.freeIdx := by unfold State.leaveExchange; split <;> rfl

end Sys2Proof.Machine
end

