-- ==== Sys2Proof/Laws/Ops.lean ====
section
/-! SUPPORT. For each shared operation, once, everything it can do: cited by the proofs instead of unfolding it. -/

namespace Sys2Proof.Machine

/-! ### Outcomes -/

@[simp] theorem settle_ok (s t : State) : settle s (.ok t) = .next t := rfl

@[simp] theorem settle_error (s : State) (r : Fault) : settle s (.error r) = .next (s.mark r) := rfl

/-- An operation answers the state of its body, or its pre-state with a fault recorded. -/
theorem settle_cases {s t : State} {e : Except Fault State} (h : settle s e = .next t) :
    e = .ok t ∨ ∃ r, e = .error r ∧ t = s.mark r := by
  cases e with
  | ok u => left; simpa using h
  | error r => right; exact ⟨r, rfl, by simpa using h.symm⟩

theorem settle_next (s : State) (e : Except Fault State) : ∃ t, settle s e = .next t := by
  cases e <;> exact ⟨_, rfl⟩

/-! ### Who may issue -/

theorem byAgent_of {a : Agent} {s : State} (f : State → Except Fault State) (h : s.agent = a) :
    byAgent a f s = settle s (f s) := by simp [byAgent, h]

theorem byAgent_other {a : Agent} {s : State} (f : State → Except Fault State) (h : s.agent ≠ a) :
    byAgent a f s = .next s.refuse := by simp [byAgent, h]

theorem byAgent_cases {a : Agent} {f : State → Except Fault State} {s t : State} (h : byAgent a f s = .next t) :
    (s.agent = a ∧ f s = .ok t) ∨ (s.agent = a ∧ ∃ r, f s = .error r ∧ t = s.mark r) ∨ (s.agent ≠ a ∧ t = s.refuse) := by
  by_cases ha : s.agent = a
  · rw [byAgent_of f ha] at h
    rcases settle_cases h with h | h
    · exact .inl ⟨ha, h⟩
    · exact .inr (.inl ⟨ha, h⟩)
  · rw [byAgent_other f ha] at h
    exact .inr (.inr ⟨ha, by simpa using h.symm⟩)

theorem bySide_of {side : Option Ctx} {s : State} (f : State → Except Fault State) (h : s.actsFor side = true) :
    bySide side f s = settle s (f s) := by simp [bySide, h]

theorem bySide_other {side : Option Ctx} {s : State} (f : State → Except Fault State) (h : s.actsFor side = false) :
    bySide side f s = .next s.refuse := by simp [bySide, h]

theorem bySide_cases {side : Option Ctx} {f : State → Except Fault State} {s t : State} (h : bySide side f s = .next t) :
    (s.actsFor side = true ∧ f s = .ok t) ∨ (s.actsFor side = true ∧ ∃ r, f s = .error r ∧ t = s.mark r) ∨
    (s.actsFor side = false ∧ t = s.refuse) := by
  cases ha : s.actsFor side with
  | true =>
    rw [bySide_of f ha] at h
    rcases settle_cases h with h | h
    · exact .inl ⟨rfl, h⟩
    · exact .inr (.inl ⟨rfl, h⟩)
  | false =>
    rw [bySide_other f ha] at h
    exact .inr (.inr ⟨rfl, by simpa using h.symm⟩)

theorem byHandler_of {h : Handler} {s : State} {c : IsrCtx} (f : IsrCtx → State → Except Fault State)
    (ha : s.agent = .isr) (hc : s.isr = some c) (hh : c.handler = h) (hcb : c.cb = .none) :
    byHandler h f s = settle s (f c s) := by
  simp [byHandler, ha, hc, hh, hcb]

theorem byHandler_cases {h : Handler} {f : IsrCtx → State → Except Fault State} {s t : State}
    (hb : byHandler h f s = .next t) :
    (∃ c, s.agent = .isr ∧ s.isr = some c ∧ c.handler = h ∧ c.cb = .none ∧
      (f c s = .ok t ∨ ∃ r, f c s = .error r ∧ t = s.mark r)) ∨ t = s.refuse := by
  unfold byHandler at hb
  split at hb
  · rename_i c ha hc
    split at hb
    · rename_i hh
      exact .inl ⟨c, ha, hc, hh.1, hh.2, settle_cases hb⟩
    · exact .inr (by simpa using hb.symm)
  · exact .inr (by simpa using hb.symm)

/-- Who acts for the declared side of an instance. -/
theorem actsFor_cases {s : State} {side : Option Ctx} (h : s.actsFor side = true) :
    (s.agent = .poll ∧ side = some .poll) ∨ (s.agent = .isr ∧ side = some .isr ∧ s.inReceive = true) := by
  unfold State.actsFor at h
  split at h <;> simp_all

/-- Inside an external receive callback. -/
theorem inReceive_cases {s : State} (h : s.inReceive = true) :
    ∃ c st, s.isr = some c ∧ c.handler = .xchIsr .rx ∧ c.cb = .external st := by
  unfold State.inReceive State.inExternal at h
  cases hc : s.isr with
  | none => simp [hc] at h
  | some c => cases hcb : c.cb <;> simp_all

/-! ### Critical sections -/

theorem critical_ok {f : State → Except Fault State} {s t : State} (h : critical f s = .ok t) :
    ∃ u, f { s with primask := true } = .ok u ∧ t = { u with primask := false } := by
  unfold critical at h
  cases hf : f { s with primask := true } with
  | ok u => rw [hf] at h; exact ⟨u, rfl, by simpa [Except.map] using h.symm⟩
  | error r => rw [hf] at h; simp [Except.map] at h

/-! ### Contexts -/

/-- A completed operation of POLL: its index goes on by 1. -/
theorem advance_of_poll {s : State} (h : s.agent = .poll) :
    s.advance = { s with poll := { s.poll with prog := s.poll.prog.tail, index := s.poll.index + 1, stage := .start } } := by
  simp [State.advance, h]

theorem advance_of_hw {s : State} {a : HwAgent} (h : s.agent = .hw a) : s.advance = s := by
  simp [State.advance, h]

/-- The interrupt context outside an external callback has no list to go on in. -/
theorem advance_of_handler {s : State} (h : s.agent = .isr) (hx : s.inExternal = false) : s.advance = s := by
  simp [State.advance, h, hx]

theorem advance_of_callback {s : State} {c : IsrCtx} {st : RbStage} (h : s.agent = .isr) (hc : s.isr = some c)
    (hx : c.cb = .external st) :
    s.advance =
      { s with isr := some { c with cb := .external .start }, cbItems := s.cbItems.tail, cbIdx := s.cbIdx + 1 } := by
  simp [State.advance, State.setStage, State.inExternal, h, hc, hx]

/-- Of POLL's and the handler's contexts, going on changes only the issuer's own. -/
theorem advance_poll_of_isr {s : State} (h : s.agent ≠ .poll) : s.advance.poll = s.poll := by
  cases ha : s.agent with
  | hw a => rw [advance_of_hw ha]
  | poll => exact absurd ha h
  | isr =>
    unfold State.advance State.setStage
    simp only [ha]
    (repeat' split) <;> rfl

theorem advance_isr_of_poll {s : State} (h : s.agent ≠ .isr) : s.advance.isr = s.isr := by
  cases ha : s.agent with
  | hw a => rw [advance_of_hw ha]
  | poll => rw [advance_of_poll ha]
  | isr => exact absurd ha h

end Sys2Proof.Machine
end

