-- ==== Sys2Proof/Laws/PerInstr.lean ====
section
/-! SUPPORT. A statement for every operation: the fields of its word are the ones the opcode map and the field rules of
30_encoding.md R83–R85 give it. -/

namespace Sys2Proof.Laws

/-- The bits of a word put together from its fields (30_encoding.md R81). -/
theorem opWord_bit (opc inst : Byte) (imm : Half) (k : Nat) :
    (opWord opc inst imm).getLsbD k =
      if k < 16 then imm.getLsbD k else if k - 16 < 8 then inst.getLsbD (k - 16) else opc.getLsbD (k - 16 - 8) := by
  change (opc ++ inst ++ imm : BitVec (8 + 8 + 16)).getLsbD k = _
  rw [BitVec.getLsbD_append, BitVec.getLsbD_append]

/-- The fields of a word put together from its fields (30_encoding.md R81). -/
theorem opWord_fields (opc inst : Byte) (imm : Half) :
    opcField (opWord opc inst imm) = opc ∧ instField (opWord opc inst imm) = inst ∧
      immField (opWord opc inst imm) = imm := by
  refine ⟨?_, ?_, ?_⟩ <;> apply BitVec.eq_of_getLsbD_eq <;> intro k hk
  · rw [opcField, BitVec.getLsbD_extractLsb', opWord_bit]
    have h1 : ¬ 24 + k < 16 := by omega
    have h2 : ¬ 24 + k - 16 < 8 := by omega
    have h3 : 24 + k - 16 - 8 = k := by omega
    simp only [hk, h1, h2, h3, decide_true, Bool.true_and, if_false]
  · rw [instField, BitVec.getLsbD_extractLsb', opWord_bit]
    have h1 : ¬ 16 + k < 16 := by omega
    have h2 : 16 + k - 16 = k := by omega
    simp only [hk, h1, h2, decide_true, Bool.true_and, if_false, if_true]
  · rw [immField, BitVec.getLsbD_extractLsb', opWord_bit]
    simp only [hk, Nat.zero_add, decide_true, Bool.true_and, if_true]

/-- The `OPC` column of 30_encoding.md R85. -/
def tableOpc : Instr → Byte
  | .rbPut _ => 0x01
  | .rbGet _ => 0x02
  | .capCntTick => 0x10
  | .capEdge _ => 0x11
  | .capIsr => 0x12
  | .capPoll => 0x13
  | .steerPulse => 0x20
  | .xchStart => 0x30
  | .dmaWord _ => 0x31
  | .xchIsr _ => 0x32
  | .alignStep => 0x40
  | .phaseRequest _ => 0x50
  | .ftTick => 0x51
  | .ftIsr => 0x52
  | .raSetAlignment _ _ => 0x60
  | .raRealignFrame _ => 0x61
  | .statsSnapshot => 0x70

/-- The word of `i` carries the opcode of its row of 30_encoding.md R85. -/
def OpcodeInTable.Statement (i : Instr) : Prop := opcField (encode i) = tableOpc i

theorem OpcodeInTable.rbPut (i : BitVec 8) : OpcodeInTable.Statement (.rbPut i) := (opWord_fields 0x01 i 0).1

theorem OpcodeInTable.rbGet (i : BitVec 8) : OpcodeInTable.Statement (.rbGet i) := (opWord_fields 0x02 i 0).1

theorem OpcodeInTable.capCntTick : OpcodeInTable.Statement .capCntTick := (opWord_fields 0x10 0 0).1

theorem OpcodeInTable.capEdge (kind : EdgeKind) : OpcodeInTable.Statement (.capEdge kind) :=
  (opWord_fields 0x11 kind.code 0).1

theorem OpcodeInTable.capIsr : OpcodeInTable.Statement .capIsr := (opWord_fields 0x12 0 0).1

theorem OpcodeInTable.capPoll : OpcodeInTable.Statement .capPoll := (opWord_fields 0x13 0 0).1

theorem OpcodeInTable.steerPulse : OpcodeInTable.Statement .steerPulse := (opWord_fields 0x20 0 0).1

theorem OpcodeInTable.xchStart : OpcodeInTable.Statement .xchStart := (opWord_fields 0x30 0 0).1

theorem OpcodeInTable.dmaWord (d : Dir) : OpcodeInTable.Statement (.dmaWord d) := (opWord_fields 0x31 d.code 0).1

theorem OpcodeInTable.xchIsr (d : Dir) : OpcodeInTable.Statement (.xchIsr d) := (opWord_fields 0x32 d.code 0).1

theorem OpcodeInTable.alignStep : OpcodeInTable.Statement .alignStep := (opWord_fields 0x40 0 0).1

theorem OpcodeInTable.phaseRequest (dir : Nudge) : OpcodeInTable.Statement (.phaseRequest dir) :=
  (opWord_fields 0x50 0 (dir.code.setWidth 16)).1

theorem OpcodeInTable.ftTick : OpcodeInTable.Statement .ftTick := (opWord_fields 0x51 0 0).1

theorem OpcodeInTable.ftIsr : OpcodeInTable.Statement .ftIsr := (opWord_fields 0x52 0 0).1

theorem OpcodeInTable.raSetAlignment (i : BitVec 8) (nBits : BitVec 16) :
    OpcodeInTable.Statement (.raSetAlignment i nBits) := (opWord_fields 0x60 i nBits).1

theorem OpcodeInTable.raRealignFrame (i : BitVec 8) : OpcodeInTable.Statement (.raRealignFrame i) :=
  (opWord_fields 0x61 i 0).1

theorem OpcodeInTable.statsSnapshot : OpcodeInTable.Statement .statsSnapshot := (opWord_fields 0x70 0 0).1

end Sys2Proof.Laws
end

