-- ==== Sys2Proof/Laws/RingBuffer.lean ====
section
/-! SUPPORT. What RB_PUT and RB_GET can do to the rings and to what the environment observes (40_ring_buffer.md R101, R103). -/

namespace Sys2Proof.Machine

variable {s t : State}

/-! ### The place inside the operation is one on its own ring -/

theorem on_eq_putStore {st : RbStage} {i j w nw : Nat} (h : st.on i = .putStore j w nw) : st = .putStore i w nw := by
  cases st <;> simp only [RbStage.on] at h <;> (try split at h) <;> simp_all

theorem on_eq_putPublish {st : RbStage} {i j nw : Nat} (h : st.on i = .putPublish j nw) : st = .putPublish i nw := by
  cases st <;> simp only [RbStage.on] at h <;> (try split at h) <;> simp_all

theorem on_eq_getRead {st : RbStage} {i j r : Nat} (h : st.on i = .getRead j r) : st = .getRead i r := by
  cases st <;> simp only [RbStage.on] at h <;> (try split at h) <;> simp_all

theorem on_eq_getPublish {st : RbStage} {i j r v : Nat} (h : st.on i = .getPublish j r v) : st = .getPublish i r v := by
  cases st <;> simp only [RbStage.on] at h <;> (try split at h) <;> simp_all

/-! ### The micro-steps -/

/-- A step over ring `i` that ends normally had the ring. -/
theorem unitAt_bind_ok {α β : Type} {l : List α} {i : Nat} {f : α → Except Fault β} {b : β}
    (h : (unitAt l i >>= f) = .ok b) : ∃ a, l[i]? = some a ∧ f a = .ok b := by
  cases hu : unitAt l i with
  | ok a => exact ⟨a, unitAt_ok hu, by rw [hu] at h; exact h⟩
  | error e => rw [hu] at h; cases h

/-- RB_PUT μ1 goes on, or answers Full where the next write cursor is the read cursor. -/
theorem putBegin_cases {i : Nat} (h : putBegin i s = .ok t) :
    (t.rings = s.rings ∧ t.obs = s.obs) ∨
    (∃ r, s.rings[i]? = some r ∧ nextCursor s.cfg.rbN r.wr = r.rd ∧ t.rings = s.rings ∧ t.obs = .result s.agent .full :: s.obs) := by
  obtain ⟨r, hr, h⟩ := unitAt_bind_ok h
  dsimp only at h
  split at h
  · rename_i hfull
    cases h
    exact .inr ⟨r, hr, hfull, by simp, by simp⟩
  · cases h
    exact .inl ⟨by simp, by simp⟩

/-- RB_PUT μ2 stores the operand in its slot and answers nothing. -/
theorem putStore_cases {i w nw : Nat} (h : putStore i w nw s = .ok t) :
    ∃ r, s.rings[i]? = some r ∧ t.rings = s.rings.set i { r with buf := r.buf.set w (Reg.of s.elemOperand) } ∧ t.obs = s.obs := by
  obtain ⟨r, hr, h⟩ := unitAt_bind_ok h
  cases hw : r.writeSlot w s.elemOperand with
  | error e => rw [hw] at h; cases h
  | ok r' =>
    rw [hw] at h
    cases h
    exact ⟨r, hr, by simp [(writeSlot_cases hw).2], by simp⟩

/-- RB_PUT μ3 publishes the write cursor and answers Ok. -/
theorem putPublish_cases {i nw : Nat} (h : putPublish i nw s = .ok t) :
    ∃ r, s.rings[i]? = some r ∧ t.rings = s.rings.set i { r with wr := nw } ∧ t.obs = .result s.agent (.ok .unit) :: s.obs := by
  obtain ⟨r, hr, h⟩ := unitAt_bind_ok h
  cases h
  exact ⟨r, hr, by simp, by simp⟩

/-- RB_GET μ1 goes on, or answers Empty where the cursors agree. -/
theorem getBegin_cases {i : Nat} (h : getBegin i s = .ok t) :
    (t.rings = s.rings ∧ t.obs = s.obs) ∨
    (∃ r, s.rings[i]? = some r ∧ r.rd = r.wr ∧ t.rings = s.rings ∧ t.obs = .result s.agent .empty :: s.obs) := by
  obtain ⟨r, hr, h⟩ := unitAt_bind_ok h
  split at h
  · rename_i hempty
    cases h
    exact .inr ⟨r, hr, hempty, by simp, by simp⟩
  · cases h
    exact .inl ⟨by simp, by simp⟩

/-- RB_GET μ2 reads its slot: no ring changes, nothing is answered. -/
theorem getRead_cases {i r : Nat} (h : getRead i r s = .ok t) : t.rings = s.rings ∧ t.obs = s.obs := by
  obtain ⟨ring, _, h⟩ := unitAt_bind_ok h
  cases hv : ring.readSlot r with
  | error e => rw [hv] at h; cases h
  | ok v => rw [hv] at h; cases h; exact ⟨by simp, by simp⟩

/-- RB_GET μ3 publishes the read cursor and answers the value read. -/
theorem getPublish_cases {i r v : Nat} (h : getPublish i r v s = .ok t) :
    ∃ ring, s.rings[i]? = some ring ∧ t.rings = s.rings.set i { ring with rd := nextCursor s.cfg.rbN r } ∧
      t.obs = .result s.agent (.ok (.elem v)) :: s.obs := by
  obtain ⟨ring, hr, h⟩ := unitAt_bind_ok h
  cases h
  exact ⟨ring, hr, by simp, by simp⟩

/-! ### The operations -/

/-- All RB_PUT does to the rings and answers. -/
theorem execRbPut_cases {i : BitVec 8} (h : execRbPut i s = .next t) :
    (t.rings = s.rings ∧ t.obs = s.obs) ∨
    (∃ r, s.rings[i.toNat]? = some r ∧ nextCursor s.cfg.rbN r.wr = r.rd ∧ t.rings = s.rings ∧
      t.obs = .result s.agent .full :: s.obs) ∨
    (∃ r w nw, s.actsFor s.cfg.rbProducer[i.toNat]? = true ∧ s.stage = .putStore i.toNat w nw ∧ s.rings[i.toNat]? = some r ∧
      t.rings = s.rings.set i.toNat { r with buf := r.buf.set w (Reg.of s.elemOperand) } ∧ t.obs = s.obs) ∨
    (∃ r nw, s.actsFor s.cfg.rbProducer[i.toNat]? = true ∧ s.stage = .putPublish i.toNat nw ∧ s.rings[i.toNat]? = some r ∧
      t.rings = s.rings.set i.toNat { r with wr := nw } ∧ t.obs = .result s.agent (.ok .unit) :: s.obs) := by
  unfold execRbPut at h
  split at h
  · rcases bySide_cases h with ⟨ha, h⟩ | ⟨_, r, _, rfl⟩ | ⟨_, rfl⟩
    · unfold putStep at h
      split at h
      · rename_i hs
        obtain ⟨r, hr⟩ := putStore_cases h
        exact .inr (.inr (.inl ⟨r, _, _, ha, on_eq_putStore hs, hr⟩))
      · rename_i hs
        obtain ⟨r, hr⟩ := putPublish_cases h
        exact .inr (.inr (.inr ⟨r, _, ha, on_eq_putPublish hs, hr⟩))
      all_goals exact (putBegin_cases h).imp_right .inl
    · exact .inl ⟨rfl, rfl⟩
    · exact .inl ⟨by simp, by simp⟩
  · cases h
    exact .inl ⟨by simp, by simp⟩

/-- All RB_GET does to the rings and answers. -/
theorem execRbGet_cases {i : BitVec 8} (h : execRbGet i s = .next t) :
    (t.rings = s.rings ∧ t.obs = s.obs) ∨
    (∃ r, s.rings[i.toNat]? = some r ∧ r.rd = r.wr ∧ t.rings = s.rings ∧ t.obs = .result s.agent .empty :: s.obs) ∨
    (∃ ring r v, s.actsFor s.cfg.rbConsumer[i.toNat]? = true ∧ s.stage = .getPublish i.toNat r v ∧
      s.rings[i.toNat]? = some ring ∧ t.rings = s.rings.set i.toNat { ring with rd := nextCursor s.cfg.rbN r } ∧
      t.obs = .result s.agent (.ok (.elem v)) :: s.obs) := by
  unfold execRbGet at h
  split at h
  · rcases bySide_cases h with ⟨ha, h⟩ | ⟨_, r, _, rfl⟩ | ⟨_, rfl⟩
    · unfold getStep at h
      split at h
      · exact .inl (getRead_cases h)
      · rename_i hs
        obtain ⟨r, hr⟩ := getPublish_cases h
        exact .inr (.inr ⟨r, _, _, ha, on_eq_getPublish hs, hr⟩)
      all_goals exact (getBegin_cases h).imp_right .inl
    · exact .inl ⟨rfl, rfl⟩
    · exact .inl ⟨by simp, by simp⟩
  · cases h
    exact .inl ⟨by simp, by simp⟩

end Sys2Proof.Machine
end

