-- ==== Sys2Proof/Machine/RegView.lean ====
section
/-! DEFINITION. The register view (10_state.md R21, R59): the numbers this spec names state by. A naming device only: no operation
reads or writes state by number. -/

namespace Sys2Proof.Machine

/-- What the view shows under a number: the elements in order, `none` for an element that holds no value; or ISR_ACTIVE, the
active handler and its next micro-step (10_state.md R56). -/
inductive RegContents where
  | elems (l : List (Option Int))
  | active (a : Option (Handler × Nat))
  deriving DecidableEq, Repr, Inhabited

/-- A scalar register that always holds a value. -/
def viewOne {n : Nat} (v : BitVec n) : RegContents := .elems [some v.toNat]

/-- A one-bit register. -/
def viewBit (b : Bool) : RegContents := viewOne (BitVec.ofBool b)

/-- A scalar register that may hold no value. -/
def Reg.view {n : Nat} (r : Reg (BitVec n)) : RegContents := .elems [if r.written then some r.val.toNat else none]

/-- A signed scalar register that may hold no value. -/
def Reg.viewSigned {n : Nat} (r : Reg (BitVec n)) : RegContents := .elems [if r.written then some r.val.toInt else none]

/-- A vector register. -/
def viewList {n : Nat} (l : List (BitVec n)) : RegContents := .elems (l.map (fun v => some v.toNat))

/-- The slots of a ring buffer. -/
def Ring.viewSlots (r : Ring) : RegContents := .elems (r.buf.map (fun c => if c.written then some c.val else none))

/-- The view of the frame-exchange registers 0x30–0x36 of one direction. -/
def Exchange.regView (e : Exchange) : Nat → Option RegContents
  | 0x30 => some (viewOne e.cur)
  | 0x31 => some (viewOne e.last)
  | 0x32 => some (viewOne e.dmaCur.view)
  | 0x33 => some (viewOne e.dmaNxt.view)
  | 0x34 => some (viewOne e.sr)
  | 0x35 => some (viewBit e.ie)
  | 0x36 => some (viewOne e.errcnt)
  | _ => none

/-- The frame-exchange registers of direction index `i`. -/
def State.xchView (s : State) (no : Nat) : Nat → Option RegContents
  | 0 => s.rx.regView no
  | 1 => s.tx.regView no
  | _ => none

/-- Register number `no`, index `i` where it exists once per instance (10_state.md R59); `none` where no register has that number
and index. -/
def State.regView (s : State) (no i : Nat) : Option RegContents :=
  match no with
  | 0x00 => s.rings[i]?.map (fun r => .elems [some r.wr])
  | 0x01 => s.rings[i]?.map (fun r => .elems [some r.rd])
  | 0x02 => s.rings[i]?.map Ring.viewSlots
  | 0x10 => some (viewOne s.cap.cnt)
  | 0x11 => some (viewOne s.cap.sr)
  | 0x12 => some s.cap.latchR.view
  | 0x13 => some s.cap.latchF.view
  | 0x14 => some (viewOne s.cap.ie)
  | 0x15 => some (viewOne s.cap.ovc)
  | 0x16 => some s.cap.tsR.view
  | 0x17 => some s.cap.tsF.view
  | 0x18 => some (viewOne s.cap.fresh)
  | 0x20 => some (viewOne s.steer.state)
  | 0x21 => some (viewOne s.steer.count)
  | 0x22 => some s.steer.dacValue.viewSigned
  | 0x23 => some s.steer.dacCenter.viewSigned
  | 0x24 => some s.steer.slope.viewSigned
  | 0x25 => some s.steer.minOffset.viewSigned
  | 0x26 => some s.steer.maxOffset.viewSigned
  | 0x27 => some (viewOne s.steer.lastRef)
  | 0x28 => some (viewOne s.steer.lastTick)
  | 0x29 => some (viewOne s.steer.flags)
  | 0x2A => some s.steer.dacOut.view
  | 0x40 => some (viewOne s.detCnt)
  | 0x50 => some (viewOne s.ft.pend)
  | 0x51 => some (viewBit s.ft.armed)
  | 0x52 => some (viewOne s.ft.top)
  | 0x53 => some (viewOne s.ft.cnt)
  | 0x54 => some (viewBit s.ft.matched)
  | 0x60 => s.realigners[i]?.map (fun r => viewOne r.offset)
  | 0x61 => s.realigners[i]?.map (fun r => viewOne r.carry)
  | 0x62 => s.realigners[i]?.map (fun r => viewList r.reframe)
  | 0x70 => some (viewList [s.rx.errcnt, s.tx.errcnt, s.stats.desync, s.stats.phaseBusy, s.stats.ppsLoss, s.stats.calFail])
  | 0x71 => some (viewBit s.primask)
  | 0x72 => some (.active (s.isr.map (fun c => (c.handler, c.mu))))
  | n => s.xchView n i

end Sys2Proof.Machine
end

