-- ==== Sys2Proof/Tests/Slice0.lean ====
section
/-! SUPPORT. The model's own tests. Expected values come from spec/: the rules' examples and the vectors of 95_test_vectors.md, or a
hand calculation from the rule named. Then a witness for each statement with hypotheses. -/

namespace Sys2Proof.Tests

open Sys2Proof.Machine Sys2Proof.Safety Sys2Proof.Statements

/-! ## Helpers -/

/-- The next state of an outcome. -/
def nextOf : Host.Outcome State Fault Refusal → Option State
  | .next t => some t
  | .fault _ => none
  | .refused _ => none

/-- A field of the next state. -/
def after {α : Type} (f : State → α) (o : Host.Outcome State Fault Refusal) : Option α := (nextOf o).map f

/-- A direction of the exchange at reset, its slot memory all 0 (an instance of "any value", 10_state.md R40). -/
def quietXch (d : Dir) : Exchange := { Exchange.reset Params.default d with slots := List.replicate 4 (List.replicate 16 0) }

/-- The machine after its boot step, slot memories all 0, POLL issuing. -/
def base : State :=
  { State.reset with
    rx := quietXch .rx, tx := quietXch .tx
    cap := { Capture.reset with ie := 0b111 }, poll := { Poll.reset with booted := true } }

/-- `base` with a hardware agent stepping, a word on port A. -/
def hwBase (a : HwAgent) (v : Word) : State := { base with agent := .hw a, portA := { base.portA with word := v } }

/-- `base` with handler `h` at micro-step `mu`, stepping. -/
def inHandler (h : Handler) (mu : Nat) : State :=
  { base with agent := .isr, isr := some { IsrCtx.enter h with mu := mu } }

/-- `base` with STEER_PULSE's operands on the ports and steering registers `st`. -/
def pulse (st : Steering) (ts tick : Word) : State :=
  { base with steer := st, portA := { base.portA with word := ts }, portB := tick }

/-- The registers the steering vectors start from (95_test_vectors.md, Steering). -/
def freqStart : Steering :=
  { Steering.reset Params.default with
    state := 3, count := 30, slope := Reg.of 131, dacCenter := Reg.of 32750, flags := 1
    lastRef := 0x00100000, lastTick := 1000 }

/-- An operation word with nothing on its ports. -/
def opOf (w : Word) : IssuedOp := { word := w, a := base.portA, b := 0 }

/-! ## Decoding: words written out from 30_encoding.md R81 and R85 -/

theorem test_decode_rb_put : decode (0b00000001_00000000_0000000000000000) = .ok (.rbPut 0) := by decide

theorem test_decode_rb_get : decode (0b00000010_00000001_0000000000000000) = .ok (.rbGet 1) := by decide

theorem test_decode_cap_cnt_tick : decode (0b00010000_00000000_0000000000000000) = .ok .capCntTick := by decide

theorem test_decode_cap_edge :
    decode (0b00010001_00000000_0000000000000000) = .ok (.capEdge .rising) ∧
    decode (0b00010001_00000001_0000000000000000) = .ok (.capEdge .falling) := by decide

theorem test_decode_cap_isr : decode (0b00010010_00000000_0000000000000000) = .ok .capIsr := by decide

theorem test_decode_cap_poll : decode (0b00010011_00000000_0000000000000000) = .ok .capPoll := by decide

theorem test_decode_steer_pulse : decode (0b00100000_00000000_0000000000000000) = .ok .steerPulse := by decide

theorem test_decode_xch_start : decode (0b00110000_00000000_0000000000000000) = .ok .xchStart := by decide

theorem test_decode_dma_word :
    decode (0b00110001_00000000_0000000000000000) = .ok (.dmaWord .rx) ∧
    decode (0b00110001_00000001_0000000000000000) = .ok (.dmaWord .tx) := by decide

theorem test_decode_xch_isr :
    decode (0b00110010_00000000_0000000000000000) = .ok (.xchIsr .rx) ∧
    decode (0b00110010_00000001_0000000000000000) = .ok (.xchIsr .tx) := by decide

theorem test_decode_align_step : decode (0b01000000_00000000_0000000000000000) = .ok .alignStep := by decide

theorem test_decode_phase_request :
    decode (0b01010000_00000000_0000000000000001) = .ok (.phaseRequest .increase) ∧
    decode (0b01010000_00000000_0000000000000010) = .ok (.phaseRequest .decrease) := by decide

theorem test_decode_ft_tick : decode (0b01010001_00000000_0000000000000000) = .ok .ftTick := by decide

theorem test_decode_ft_isr : decode (0b01010010_00000000_0000000000000000) = .ok .ftIsr := by decide

theorem test_decode_ra_set_alignment : decode (0b01100000_00000001_0000000100101100) = .ok (.raSetAlignment 1 300) := by decide

theorem test_decode_ra_realign_frame : decode (0b01100001_00000000_0000000000000000) = .ok (.raRealignFrame 0) := by decide

theorem test_decode_stats_snapshot : decode (0b01110000_00000000_0000000000000000) = .ok .statsSnapshot := by decide

/-- V-ENC-3, 6, 14, 15, 19, 20. -/
theorem test_undecodable :
    decode 0x01000001 = .error (.immNotZero 0x01) ∧ decode 0x11020000 = .error (.instNotZero 0x11) ∧
    decode 0x50000000 = .error .badDir ∧ decode 0x50000003 = .error .badDir ∧
    decode 0x50000006 = .error (.immNotZero 0x50) ∧ decode 0x00000000 = .error (.unassigned 0x00) ∧
    decode 0xF0000000 = .error (.reserved 0xF0) ∧ decode 0xFFFFFFFF = .error (.reserved 0xFF) := by decide

theorem test_decode_table_word :
    decodeTableWord 32 0x6001012C = some (.raSetAlignment 1 300) ∧ decodeTableWord 32 0x60020000 = some (.raSetAlignment 2 0) ∧
    decodeTableWord 32 0x01000001 = none := by decide

/-! ## Well-formedness: each check refuses an ill-formed term -/

theorem test_default_valid : Params.default.valid = true := by decide

theorem test_bad_rb_n : ({ Params.default with rbN := 0 } : Params).valid = false := by decide

theorem test_bad_n_rx :
    ({ Params.default with nRx := 1 } : Params).valid = false ∧ ({ Params.default with nRx := 128 } : Params).valid = false := by
  decide

theorem test_bad_n_tx :
    ({ Params.default with nTx := 1 } : Params).valid = false ∧ ({ Params.default with nTx := 128 } : Params).valid = false := by
  decide

theorem test_bad_periods : ({ Params.default with periods := 0 } : Params).valid = false := by decide

theorem test_bad_init_discard : ({ Params.default with initDiscard := 0 } : Params).valid = false := by decide

theorem test_bad_settle : ({ Params.default with settle := 0 } : Params).valid = false := by decide

theorem test_bad_gate : ({ Params.default with gateMin := 126 } : Params).valid = false := by decide

theorem test_bad_f :
    ({ Params.default with f := 0 } : Params).valid = false ∧ ({ Params.default with f := 33 } : Params).valid = false := by decide

theorem test_bad_check_interval : ({ Params.default with alignCheckInterval := 0 } : Params).valid = false := by decide

theorem test_bad_nominal_top :
    ({ Params.default with nominalTop := 1 } : Params).valid = false ∧
    ({ Params.default with nominalTop := 0xFFFF } : Params).valid = false := by decide

theorem test_bad_dac :
    ({ Params.default with dacMax := -1 } : Params).valid = false ∧
    ({ Params.default with dacRange := 0 } : Params).valid = false ∧
    ({ Params.default with dacShift := 20 } : Params).valid = false := by decide

theorem test_bad_counts :
    ({ Params.default with rbCount := 0 } : Params).valid = false ∧
    ({ Params.default with rbCount := 257 } : Params).valid = false ∧
    ({ Params.default with raCount := 0 } : Params).valid = false ∧
    ({ Params.default with raCount := 257 } : Params).valid = false := by decide

/-- `INST` out of range (30_encoding.md R83) with two rings and two realigners. -/
theorem test_ill_formed_instance :
    (Instr.rbPut 2).wellFormed Params.default = false ∧ (Instr.rbGet 2).wellFormed Params.default = false ∧
    (Instr.raSetAlignment 2 0).wellFormed Params.default = false ∧ (Instr.raRealignFrame 2).wellFormed Params.default = false ∧
    (Instr.rbPut 1).wellFormed Params.default = true := by decide

/-! ## Fetch -/

/-- A placed STATS_SNAPSHOT is the first operation to run after reset (V-STAT-1's result). -/
theorem test_fetch_stats :
    after State.obs (step (State.reset.withFetchWord 32 0x70000000)) =
      some [.result .poll (.ok (.snapshot
        { rxOverrun := 0, txUnderrun := 0, desync := 0, phaseBusy := 0, ppsLoss := 0, calFail := 0
          stState := 0, stFlags := 0, paPend := 0 }))] := by decide

/-- A placed CAP_CNT_TICK runs as CAPCNT's step; a placed CAP_ISR as its μ1. -/
theorem test_fetch_agents :
    after (fun t => t.cap.cnt) (step (State.reset.withFetchWord 32 0x10000000)) = some 1 ∧
    after (fun t => t.isr.map IsrCtx.mu) (step (State.reset.withFetchWord 32 0x12000000)) = some (some 2) := by decide

/-- V-ENC-19: a placed word that spells no operation sets REFUSED, and the run goes on. -/
theorem test_fetch_illegal : after State.refused (step (State.reset.withFetchWord 32 0)) = some true := by decide

/-! ## Operations: one step each, expected values from 95_test_vectors.md and the rules' examples -/

/-- A ring of capacity 2 with cursors `wr`, `rd` and 0x41, 0x42, 0x43 in its slots. -/
def ringAt (wr rd : Nat) : Ring := { buf := [Reg.of 0x41, Reg.of 0x42, Reg.of 0x43], wr := wr, rd := rd }

/-- POLL on ring 0 at `stage`, the element 0x43 on port A. -/
def onRing (r : Ring) (stage : RbStage) : State :=
  { base with
    rings := [r, Ring.reset Params.default], portA := { base.portA with elem := 0x43 }
    poll := { base.poll with stage := stage } }

/-- V-RB-3 (Full); V-RB-4's publication: the cursor wraps to 0. -/
theorem test_rb_put :
    after (fun t => (t.rings.map Ring.wr, t.obs.head?)) (exec (.rbPut 0) (onRing (ringAt 2 0) .start)) =
      some ([2, 0], some (.result .poll .full)) ∧
    after (fun t => (t.rings.map Ring.wr, t.obs.head?)) (exec (.rbPut 0) (onRing (ringAt 2 1) (.putPublish 0 0))) =
      some ([0, 0], some (.result .poll (.ok .unit))) := by decide

/-- V-RB-6 (Empty); V-RB-5's read of slot 2 and publication: the cursor wraps to 0. -/
theorem test_rb_get :
    after (fun t => t.obs.head?) (exec (.rbGet 0) (onRing (ringAt 1 1) .start)) = some (some (.result .poll .empty)) ∧
    after (fun t => t.poll.stage) (exec (.rbGet 0) (onRing (ringAt 0 2) (.getRead 0 2))) = some (.getPublish 0 2 0x43) ∧
    after (fun t => (t.rings.map Ring.rd, t.obs.head?)) (exec (.rbGet 0) (onRing (ringAt 0 2) (.getPublish 0 2 0x43))) =
      some ([0, 0], some (.result .poll (.ok (.elem 0x43)))) := by decide

/-- V-CAP-1. -/
theorem test_cap_cnt_tick :
    after (fun t => (t.cap.cnt, t.cap.sr)) (exec .capCntTick { hwBase .capcnt 0 with cap := { base.cap with cnt := 0xFFFF } }) =
      some (0, 0b001) := by decide

/-- R121's example. -/
theorem test_cap_edge :
    after (fun t => (t.cap.latchR, t.cap.sr))
      (exec (.capEdge .rising) { hwBase .capcnt 0 with cap := { base.cap with cnt := 0x1234 } }) =
      some (Reg.of 0x1234, 0b010) := by decide

/-- CAP_ISR before μ5 with what it has read. -/
def beforePublish (sr : BitVec 3) (ovc tv ra rb : Half) : State :=
  { base with
    agent := .isr, cap := { base.cap with ovc := ovc }
    isr := some { IsrCtx.enter .capIsr with mu := 5, hSr := sr, hTv := tv, hRa := ra, hRb := rb } }

/-- V-CAP-2 to 4 and 8 at μ5: after the wrap, before it, exactly on it, the epoch wrapping. -/
theorem test_cap_isr_epoch :
    after (fun t => (t.cap.tsR.val, t.cap.ovc)) (exec .capIsr (beforePublish 0b011 5 3 1 0)) = some (0x00060001, 6) ∧
    after (fun t => (t.cap.tsR.val, t.cap.ovc)) (exec .capIsr (beforePublish 0b011 5 3 0xFFF0 0)) = some (0x0005FFF0, 6) ∧
    after (fun t => (t.cap.tsR.val, t.cap.ovc)) (exec .capIsr (beforePublish 0b011 5 0 0 0)) = some (0x00060000, 6) ∧
    after (fun t => (t.cap.tsR.val, t.cap.ovc)) (exec .capIsr (beforePublish 0b011 0xFFFF 2 1 0)) = some (1, 0) := by decide

/-- V-CAP-6 at μ5 (no overflow read), and μ1's read-and-clear. -/
theorem test_cap_isr_no_overflow :
    after (fun t => (t.cap.tsF.val, t.cap.fresh, t.cap.ovc)) (exec .capIsr (beforePublish 0b100 5 0x8003 0 0x8000)) =
      some (0x00058000, 0b10, 5) ∧
    after (fun t => (t.cap.sr, t.isr.map IsrCtx.hSr)) (exec .capIsr { inHandler .capIsr 1 with cap := { base.cap with sr := 0b101 } }) =
      some (0, some 0b101) := by decide

/-- V-CAP-11, V-CAP-12. -/
theorem test_cap_poll :
    after (fun t => t.obs) (exec .capPoll base) = some [.result .poll (.ok (.event none none))] ∧
    after (fun t => (t.cap.fresh, t.obs)) (exec .capPoll
      { base with cap := { base.cap with fresh := 0b11, tsR := Reg.of 0x00060001, tsF := Reg.of 0x00060100 } }) =
      some (0, [.result .poll (.ok (.event (some 0x00060001) (some 0x00060100)))]) := by decide

/-- What a steering vector lists: ST_STATE, ST_COUNT, DAC_CENTER, DAC_VALUE, DAC_OUT. -/
def steerView (t : State) : List Int :=
  [t.steer.state.toNat, t.steer.count.toNat, t.steer.dacCenter.val.toInt, t.steer.dacValue.val.toInt, t.steer.dacOut.val.toNat]

/-- V-ST-4 (truncation toward zero), 9 (upper clamp), 12 (32-bit wrap), 14 (lock lost). -/
theorem test_steer_pulse :
    after steerView (exec .steerPulse (pulse freqStart (0x001F4240 - 1) 1100)) = some [3, 29, 32782, 32880, 2055] ∧
    after steerView (exec .steerPulse (pulse freqStart (0x001F4240 - 1000) 1100)) = some [3, 30, 65500, 65535, 4095] ∧
    after steerView (exec .steerPulse (pulse { freqStart with lastRef := 0xFFFF0000 } 0x000E4239 1100)) =
      some [3, 30, 32979, 33666, 2104] ∧
    after steerView (exec .steerPulse (pulse { freqStart with state := 4, count := 0 } (0x001F4240 + 51) 1100)) =
      some [3, 30, 31080, 26070, 1629] := by decide

/-- V-CAL-2 (accepted) and V-CAL-6 (refused: 0 is not above 0), at the last CalibrateMax pulse with offset 0. -/
theorem test_steer_calibration :
    after (fun t => (steerView t, t.steer.slope.val)) (exec .steerPulse (pulse
      { freqStart with state := 2, count := 1, minOffset := Reg.of (-300), maxOffset := Reg.of 700 } 0x001F4240 1100)) =
      some ([3, 30, 19650, 19650, 1228], 262) ∧
    after (fun t => ([t.steer.state.toNat, t.steer.count.toNat, t.steer.flags.toNat, t.stats.calFail.toNat], t.obs)) (exec .steerPulse (pulse
      { freqStart with state := 2, count := 1, minOffset := Reg.of (-5), maxOffset := Reg.of 0 } 0x001F4240 1100)) =
      some ([0, 2, 2, 1], [.result .poll .calibrationPreconditionViolated]) := by decide

/-- A scalar register of the view. -/
def shows (v : Int) : Option RegContents := some (.elems [some v])

/-- The view shows ISR_ACTIVE, a slot without a value beside one with, and a signed register (10_state.md R59, R56). -/
theorem test_reg_view :
    (inHandler .ftIsr 2).regView 0x72 0 = some (.active (some (.ftIsr, 2))) ∧ base.regView 0x72 0 = some (.active none) ∧
    ({ base with rings := [{ buf := [Reg.of 7, Reg.blank 0], wr := 1, rd := 0 }] } : State).regView 0x02 0 =
      some (.elems [some 7, none]) ∧
    ({ base with steer := { freqStart with minOffset := Reg.of (-250) } } : State).regView 0x25 0 = shows (-250) ∧
    base.regView 0x16 0 = some (.elems [none]) ∧ base.regView 0x36 2 = none ∧ base.regView 0x19 0 = none := by decide

/-- V-XCH-1 in the register view, for both directions; V-ENC-22: a second XCH_START is refused. -/
theorem test_xch_start :
    after (fun t => [t.regView 0x32 0, t.regView 0x33 0, t.regView 0x32 1, t.regView 0x33 1, t.regView 0x35 1]) (exec .xchStart base) =
      some [shows 0x8000, shows 0x8100, shows 0x8000, shows 0x8100, shows 1] ∧
    after State.refused (exec .xchStart { base with rx := { base.rx with ie := true } }) = some true := by decide

/-- Receive engine with descriptors `cur`, `nxt`. -/
def rxWith (cur : DmaCur) (nxt : DmaNxt) : State :=
  { hwBase .dmaRx 0x40000000 with rx := { base.rx with dmaCur := cur, dmaNxt := nxt, ie := true } }

/-- V-XCH-4 and V-XCH-8. -/
theorem test_dma_word_rx :
    after (fun t => (t.rx.slots[2]?.bind (fun m => m[15]?), t.rx.sr, t.regView 0x32 0, t.regView 0x33 0))
      (exec (.dmaWord .rx) (rxWith { valid := true, slot := 2, pos := 15 } { valid := true, slot := 3 })) =
      some (some 0x40000000, 0b01, shows 0x8300, shows 0x0300) ∧
    after (fun t => (t.rx.slots[1]?.bind (fun m => m[0]?), t.regView 0x32 0))
      (exec (.dmaWord .rx) (rxWith { valid := false, slot := 0, pos := 16 } { valid := true, slot := 1 })) =
      some (some 0x40000000, shows 0x8101) := by decide

/-- V-XCH-10: an idle transmit engine sends one word and changes no register of the block; a loaded one sends its slot's word. -/
theorem test_dma_word_tx :
    after (fun t => (t.tx, t.obs.length)) (exec (.dmaWord .tx) (hwBase .dmaTx 0)) = some (base.tx, 1) ∧
    after (fun t => t.obs) (exec (.dmaWord .tx) { hwBase .dmaTx 0 with
      tx := { base.tx with slots := base.tx.slots.set 1 (List.replicate 16 7), dmaCur := { valid := true, slot := 1, pos := 3 } } }) =
      some [.lineOut 7] := by decide

/-- V-XCH-12 at μ2; V-XCH-7 at μ5. -/
theorem test_xch_isr :
    after (fun t => (t.rx.last, t.rx.cur)) (exec (.xchIsr .rx)
      { inHandler (.xchIsr .rx) 2 with
        rx := { base.rx with cur := 1 }, isr := some { IsrCtx.enter (.xchIsr .rx) with mu := 2, hX := 0b01 } }) = some (1, 2) ∧
    after (fun t => (t.rx.cur, t.regView 0x33 0)) (exec (.xchIsr .rx)
      { inHandler (.xchIsr .rx) 5 with
        rx := { base.rx with cur := 1 }, isr := some { IsrCtx.enter (.xchIsr .rx) with mu := 5, hX := 0b11 } }) =
      some (0, shows 0x8100) := by decide

/-- ALIGN_STEP at `cb`, DET_CNT = `n`. -/
def inAlign (cb : Callback) (n : Half) : State :=
  { base with
    agent := .isr, detCnt := n, isr := some { IsrCtx.enter (.xchIsr .rx) with mu := 6, hX := 0b01, cb := cb } }

/-- V-AL-1; the predicate's examples in 95_test_vectors.md: 0x37FFFFFF with 0x7FFFFFFF passes, 0x1B000000 fails. -/
theorem test_align_step :
    after (fun t => (t.detCnt, t.isr, t.obs.getLast?)) (exec .alignStep (inAlign .alignEntry 5)) =
      some (4, none, some (.trace .alignStep (.ok .unit))) ∧
    slotOk Params.default 0x37FFFFFF 0x7FFFFFFF = true ∧ slotOk Params.default 0x1B000000 0x40000000 = false ∧
    slotOk Params.default 0x36000000 0xC0000000 = false := by decide

/-- V-AL-3's verdict on a bad slot, and its end. -/
theorem test_align_step_desync :
    after (fun t => (t.stats.desync, t.isr.map IsrCtx.cb)) (exec .alignStep (inAlign (.alignOdd 2 0) 0)) =
      some (1, some .alignRequest) ∧
    after (fun t => (t.detCnt, t.obs)) (exec .alignStep (inAlign (.alignFinish false) 0)) =
      some (200, [.trace (.xchIsr .rx) (.ok .unit), .trace .alignStep .desync]) := by decide

/-- V-PA-3 and V-PA-5; then V-PA-4: Busy, the timer unchanged. -/
theorem test_phase_request :
    after (fun t => t.ft) (exec (.phaseRequest .increase) { base with ft := { base.ft with matched := true } }) =
      some { base.ft with pend := 1, armed := true, matched := false } ∧
    after (fun t => t.ft) (exec (.phaseRequest .decrease) { base with ft := { base.ft with armed := true, matched := true } }) =
      some { base.ft with pend := 2, armed := true, matched := true } ∧
    after (fun t => (t.ft.pend, t.obs)) (exec (.phaseRequest .decrease) { base with ft := { base.ft with pend := 1, armed := true } }) =
      some (1, [.result .poll .busy]) := by decide

/-- V-PA-1, V-PA-2. -/
theorem test_ft_tick :
    after (fun t => (t.ft.cnt, t.ft.matched, t.obs)) (exec .ftTick { hwBase .ftimer 0 with ft := { base.ft with cnt := 511 } }) =
      some (0, true, [.frameSync]) ∧
    after (fun t => (t.ft.cnt, t.ft.matched, t.obs)) (exec .ftTick { hwBase .ftimer 0 with ft := { base.ft with cnt := 17 } }) =
      some (18, false, []) := by decide

/-- V-PA-7 and V-PA-8 at μ2. -/
theorem test_ft_isr :
    after (fun t => (t.ft.top, t.ft.armed, t.ft.pend)) (exec .ftIsr { inHandler .ftIsr 2 with ft := { base.ft with pend := 2, armed := true } }) =
      some (511, true, 0) ∧
    after (fun t => (t.ft.top, t.ft.armed)) (exec .ftIsr { inHandler .ftIsr 2 with ft := { base.ft with top := 513, armed := true } }) =
      some (512, false) := by decide

/-- V-RA-1, V-RA-2. -/
theorem test_ra_set_alignment :
    after (fun t => t.realigners.map (fun r => r.offset.toNat)) (exec (.raSetAlignment 1 300) base) = some [0, 44] ∧
    after (fun t => t.realigners.map (fun r => r.offset.toNat)) (exec (.raSetAlignment 0 65535) base) = some [255, 0] := by decide

/-- Realigner 0 at offset `off` with `carry`, its input the bytes `bytes`, then zeros. -/
def realignBase (off carry : Byte) (bytes : Vector Byte 32) : State :=
  { base with
    realigners := [{ offset := off, carry := carry, reframe := List.replicate 32 0 }, Realigner.reset Params.default]
    portA := { base.portA with frame := bytes } }

/-- V-RA-6's input: 0xAB, 0xCD, zeros, 0xEF in byte 31. -/
def vecRa6 : Vector Byte 32 := (((Vector.replicate 32 (0 : Byte)).set 0 0xAB).set 1 0xCD).set 31 0xEF

/-- V-RA-6, V-RA-9: the new carry and overlap, and the output. -/
theorem test_ra_realign_frame :
    after (fun t => (t.realigners.head?, t.obs)) (exec (.raRealignFrame 0) (realignBase 12 0 vecRa6)) =
      some (some { offset := 12, carry := 0xF0, reframe := 0x0E :: List.replicate 31 0 },
        [.result .poll (.ok (.frame ([0x00, 0x0A, 0xBC, 0xD0] ++ List.replicate 28 0)))]) ∧
    after (fun t => (t.realigners.head?, t.obs)) (exec (.raRealignFrame 0) (realignBase 255 0 (Vector.replicate 32 0xFF))) =
      some (some { offset := 255, carry := 0xFE, reframe := List.replicate 31 0xFF ++ [0] },
        [.result .poll (.ok (.frame (List.replicate 31 0 ++ [1])))]) := by decide

/-- V-STAT-1 on STATS_SNAPSHOT is test_fetch_stats; its refusal from ISR (30_encoding.md R89). -/
theorem test_stats_snapshot : after State.refused (exec .statsSnapshot { base with agent := .isr }) = some true := by decide

/-! ## Witnesses: concrete states and operands that meet the hypotheses of each statement -/

/-- Ring 0 of a machine in a run: one unread element, the next one stored and not yet published. -/
def ringInRun : Ring := { buf := [Reg.of 0x41, Reg.of 0x42, Reg.blank 0], wr := 1, rd := 0 }

/-- A machine in a run: POLL before μ3 of RB_PUT rb0, FreqDiscipline, both exchange directions started, a rising edge latched. -/
def running : State :=
  { base with
    rings := [ringInRun, Ring.reset Params.default]
    steer := freqStart
    cap := { base.cap with cnt := 5, sr := 0b010, latchR := Reg.of 3 }
    rx := { base.rx with ie := true, dmaCur := { valid := true, slot := 0, pos := 7 }, dmaNxt := { valid := true, slot := 1 } }
    tx := { base.tx with ie := true, dmaCur := { valid := true, slot := 0, pos := 7 }, dmaNxt := { valid := true, slot := 1 } }
    poll := { base.poll with prog := [opOf 0x01000000], stage := .putPublish 0 2 }
    sched := [.poll] }

/-- `running` with other events next. -/
def runningOn (sched : List Event) : State := { running with sched := sched }

theorem ring_run_ok : RingOk 2 ringInRun := by
  refine ⟨rfl, by decide, by decide, fun j hj h => ?_⟩
  have h0 : j = 0 := by
    simp only [holdsElement, occupancy, ringInRun] at h
    omega
  subst h0
  exact ⟨_, rfl, rfl⟩

theorem ring_reset_ok : RingOk 2 (Ring.reset Params.default) := by
  refine ⟨rfl, by decide, by decide, fun j hj h => ?_⟩
  exact absurd (show (j + 3 - 0) % 3 < 0 from h) (Nat.not_lt_zero _)

theorem exchange_ok (e : Exchange) (hs : e.slots = List.replicate 4 (List.replicate 16 0)) (hc : e.cur = 0) (hl : e.last = 0xFF)
    (hd : e.dmaCur = { valid := true, slot := 0, pos := 7 }) (hn : e.dmaNxt = { valid := true, slot := 1 }) (hr : e.sr = 0) :
    ExchangeOk 4 e := by
  refine ⟨by rw [hs]; decide, by rw [hc]; decide, .inr hl, ?_, ?_, ?_⟩
  · rw [hd]; decide
  · rw [hn]; decide
  · rw [hr]; decide

theorem realigner_ok : RealignerOk Params.default (Realigner.reset Params.default) := by
  refine ⟨by decide, rfl, fun j _ hj => ?_, 0, rfl⟩
  have hj' : j < 32 := hj
  simp only [Realigner.reset, Params.default, List.getElem?_replicate, hj', if_true]

/-- The hypothesis of StepKeepsInv, InvMakesStepSafe, RingIsQueue, TrueCountAdvances: the invariant, away from reset. -/
theorem witness_Inv : Safety.Inv running where
  cfg := by decide
  faults := rfl
  primask := rfl
  ringCount := rfl
  rings := fun i r h => by
    match i, h with
    | 0, h => cases h; exact ring_run_ok
    | 1, h => cases h; exact ring_reset_ok
  capture := ⟨fun _ => rfl, by decide, by decide, by decide⟩
  steering := ⟨by decide, by decide, by decide, fun _ => ⟨rfl, rfl⟩, fun _ => ⟨rfl, rfl⟩, fun _ h => by cases h⟩
  rx := exchange_ok _ rfl rfl rfl rfl rfl rfl
  tx := exchange_ok _ rfl rfl rfl rfl rfl rfl
  detector := ⟨by decide, by decide⟩
  timer := ⟨by decide, by decide, .inl rfl⟩
  realignerCount := rfl
  realigners := fun i r h => by
    match i, h with
    | 0, h => cases h; exact realigner_ok
    | 1, h => cases h; exact realigner_ok
  isr := fun c h => by cases h
  stage := ⟨rfl, _, rfl, rfl, by decide, _, rfl, rfl⟩
  boot := fun h => by cases h

/-- The invariant does not depend on the schedule. -/
theorem witness_Inv_on (sched : List Event) : Safety.Inv (runningOn sched) :=
  { cfg := witness_Inv.cfg, faults := witness_Inv.faults, primask := witness_Inv.primask, ringCount := witness_Inv.ringCount
    rings := witness_Inv.rings, capture := witness_Inv.capture, steering := witness_Inv.steering, rx := witness_Inv.rx
    tx := witness_Inv.tx, detector := witness_Inv.detector, timer := witness_Inv.timer
    realignerCount := witness_Inv.realignerCount, realigners := witness_Inv.realigners, isr := witness_Inv.isr
    stage := witness_Inv.stage, boot := witness_Inv.boot }

/-- EncodeDecode. -/
theorem witness_EncodeDecode :
    decode 0x60FFFFFF = .ok (.raSetAlignment 255 0xFFFF) ∧ decode 0x01FF0000 = .ok (.rbPut 255) := by decide

/-- IllegalWordRefused: an instance number at RB_COUNT, and one below it; dir 3. -/
theorem witness_IllegalWordRefused :
    ¬ Legal base.cfg 0x01020000 ∧ ¬ Legal base.cfg 0x50000003 ∧ ¬ Legal base.cfg 0xF0000000 ∧ Legal base.cfg 0x01010000 :=
  ⟨(by decide : ¬ ((2 : Nat) < 2 ∧ (0 : Half) = 0)), (by decide : ¬ ((0 : Byte) = 0 ∧ ((3 : Half) = 1 ∨ (3 : Half) = 2))), id,
    (by decide : (1 : Nat) < 2 ∧ (0 : Half) = 0)⟩

/-- WrongAgentRefused, its first clause: CAP_POLL from ISR, RB_PUT on ring 0 by a second producer (30_encoding.md R89's examples). -/
theorem witness_WrongAgentRefused : ¬ NamedAgent base.cfg .isr .capPoll ∧ ¬ NamedAgent base.cfg .isr (.rbPut 0) :=
  ⟨fun h => Agent.noConfusion h, fun h => h.elim (fun h => Agent.noConfusion h.1) (fun h => absurd h.2 (by decide))⟩

/-- The interrupt context inside an external callback, issuing. -/
def inExternal (d : Dir) (items : List CbItem) : State :=
  { base with
    agent := .isr, isr := some { IsrCtx.enter (.xchIsr d) with mu := 6, hX := 0b01, done := 3, cb := .external .start }
    cbItems := items, sched := [.isr] }

/-- WrongAgentRefused, its second clause: the transmit callback, the receive handler outside its callback, no handler. -/
theorem witness_WrongAgentRefused_callback :
    OnInstance (.raSetAlignment 1 0) ∧ (inExternal .tx []).agent = .isr ∧
    (∀ c, (inExternal .tx []).isr = some c → c.handler ≠ .xchIsr .rx ∨ ∀ st, c.cb ≠ .external st) ∧
    (∀ c, (inHandler (.xchIsr .rx) 6).isr = some c → c.handler ≠ .xchIsr .rx ∨ ∀ st, c.cb ≠ .external st) ∧
    (∀ c, ({ base with agent := .isr } : State).isr = some c → c.handler ≠ .xchIsr .rx ∨ ∀ st, c.cb ≠ .external st) :=
  ⟨⟨1, 0, .inr (.inr (.inl rfl))⟩, rfl, (fun c h => by cases h; exact .inl (by decide)),
    (fun c h => by cases h; exact .inr (fun st hc => Callback.noConfusion hc)), fun c h => by cases h⟩

/-- HandlerWordsElsewhereRefused: no handler active; another handler active; its own, inside an external callback. -/
theorem witness_HandlerWordsElsewhereRefused :
    (∀ c, ({ base with agent := .isr } : State).isr = some c → c.handler ≠ .capIsr ∨ c.cb ≠ .none) ∧
    (∀ c, (inHandler .ftIsr 1).isr = some c → c.handler ≠ .capIsr ∨ c.cb ≠ .none) ∧
    (∀ c, (inExternal .rx []).isr = some c → c.handler ≠ .xchIsr .rx ∨ c.cb ≠ .none) ∧
    (∀ c, (inExternal .rx []).isr = some c →
      c.handler ≠ .xchIsr .rx ∨ c.cb = .none ∨ c.cb = .alignRequest ∨ ∃ st, c.cb = .external st) ∧
    (∀ c, (inExternal .rx []).isr = some c → c.cb ≠ .alignRequest) := by
  refine ⟨(fun c h => by cases h), fun c h => ?_, fun c h => ?_, fun c h => ?_, fun c h => ?_⟩ <;> cases h
  · exact .inl (by decide)
  · exact .inr (by decide)
  · exact .inr (.inr (.inr ⟨_, rfl⟩))
  · decide

/-- POLL's next step issues `o`. -/
def pollNext (s : State) (o : IssuedOp) : State := { s with sched := [.poll], poll := { s.poll with prog := [o] } }

/-- POLL's next step issues STEER_PULSE. -/
def pulseNext (st : Steering) (ts tick : Word) : State :=
  pollNext { base with steer := st } { word := 0x20000000, a := { base.portA with word := ts }, b := tick }

/-- StepRunsDecodedInstr. -/
theorem witness_StepRunsDecodedInstr :
    Live (pollNext base (opOf 0x13000000)) ∧
    (pollNext base (opOf 0x13000000)).currentOp (pollNext base (opOf 0x13000000)).nextEvent = some (.poll, opOf 0x13000000) ∧
    decode (opOf 0x13000000).word = .ok .capPoll := ⟨⟨rfl, by decide⟩, rfl, by decide⟩

/-- AgentPresentsOperation, clause by clause from the second on. -/
theorem witness_AgentPresentsOperation :
    (base.isr = none ∧ base.poll.hold = none ∧ base.poll.booted = true ∧ running.poll.prog = [opOf 0x01000000]) ∧
    (inHandler .capIsr 1).isr ≠ none ∧ ({ base.poll with hold := some { result := .full, accepted := true } } : Poll).hold ≠ none ∧
    (inHandler .capIsr 1).isr = some (IsrCtx.enter .capIsr) ∧ (IsrCtx.enter .capIsr).cb = .none ∧
    (scanning (.alignOdd 3 0) = true ∧ Callback.alignOdd 3 0 ≠ .alignRequest) ∧
    (inAlign .alignRequest 0).isr.map IsrCtx.cb = some .alignRequest ∧
    (inExternal .rx [.op (opOf 0x01010000)]).nextCbItem = .op (opOf 0x01010000) := by decide

/-- BootStep. -/
theorem witness_BootStep :
    Live { State.reset with sched := [.poll] } ∧ ({ State.reset with sched := [.poll] } : State).nextEvent = .poll ∧
    State.reset.isr = none ∧ State.reset.poll.hold = none ∧ State.reset.poll.booted = false :=
  ⟨⟨rfl, by decide⟩, rfl, rfl, rfl, rfl⟩

/-- A dispatch of CAP_ISR with CAP_SR at `sr`. -/
def dispatching (sr : BitVec 3) : State := { base with cap := { base.cap with sr := sr }, sched := [.dispatch .capIsr] }

/-- DispatchStep: the source pending, and not. -/
theorem witness_DispatchStep :
    Live (dispatching 0b001) ∧ (dispatching 0b001).nextEvent = .dispatch .capIsr ∧
    ((dispatching 0b001).isr = none ∧ (dispatching 0b001).primask = false ∧ Pending (dispatching 0b001) .capIsr) ∧
    ¬ ((dispatching 0).isr = none ∧ (dispatching 0).primask = false ∧ Pending (dispatching 0) .capIsr) :=
  ⟨⟨rfl, by decide⟩, rfl, ⟨rfl, rfl, (by decide : (0b001 : BitVec 3) &&& 0b111 ≠ 0)⟩,
    fun h => absurd h.2.2 (by decide : ¬ (0 : BitVec 3) &&& 0b111 ≠ 0)⟩

/-- HandlersStartOnlyByDispatch: a step that makes a handler active; a tick while it is active. -/
theorem witness_HandlersStartOnlyByDispatch :
    after State.isr (step (dispatching 0b001)) = some (some (IsrCtx.enter .capIsr)) ∧
    after State.isr (step { inHandler .capIsr 3 with sched := [.hw .capcnt (opOf 0x10000000)] }) =
      some (some { IsrCtx.enter .capIsr with mu := 3 }) := by decide

/-- POLL held, the sink's acceptance as given, the event `e` next. -/
def held (accepted : Bool) (e : Event) : State :=
  { base with sched := [e], poll := { base.poll with hold := some { result := .full, accepted := accepted } } }

/-- PollWaits: a tick during a handler, a POLL event during a hold, the acceptance during a handler and a hold. -/
theorem witness_PollWaits :
    after State.poll (step { inHandler .capIsr 3 with sched := [.hw .capcnt (opOf 0x10000000)] }) = some base.poll ∧
    after State.poll (step (held false .poll)) = some (held false .poll).poll ∧
    after State.poll (step { held false .dacReady with isr := some (IsrCtx.enter .capIsr) }) = some (held true .dacReady).poll := by
  decide

/-- DacAcceptance, clause by clause. -/
theorem witness_DacAcceptance :
    (Live (held false .dacReady) ∧ (held false .dacReady).nextEvent = .dacReady ∧
      (held false .dacReady).poll.hold = some { result := .full, accepted := false }) ∧
    (Live { base with sched := [.dacReady] } ∧ base.poll.hold = none) ∧
    (Live (held true .poll) ∧ (held true .poll).nextEvent = .poll ∧ (held true .poll).isr = none ∧
      (held true .poll).poll.hold = some { result := .full, accepted := true }) :=
  ⟨⟨⟨rfl, by decide⟩, rfl, rfl⟩, ⟨⟨rfl, by decide⟩, rfl⟩, ⟨rfl, by decide⟩, rfl, rfl, rfl⟩

/-- ContextGoesOn. -/
theorem witness_ContextGoesOn :
    base.agent = .poll ∧ (hwBase .dmaRx 0).agent = .hw .dmaRx ∧ (inExternal .tx []).agent = .isr ∧
    (∀ c st, (inHandler .capIsr 1).isr = some c → c.cb ≠ .external st) ∧
    (inExternal .tx []).isr.map IsrCtx.cb = some (.external .start) :=
  ⟨rfl, rfl, rfl, (fun c st h => by cases h; intro hc; cases hc), rfl⟩

/-- ResetInvAnyConfig: a configuration at the ends of its ranges. -/
theorem witness_ResetInvAnyConfig :
    ({ Params.default with
        rbN := 1, nRx := 127, nTx := 2, periods := 1, gateMin := 125, f := 1, nominalTop := 0xFFFE, dacMax := 0, dacRange := 1
        rbCount := 256, raCount := 256, dacShift := 19, alignCheckInterval := 1 } : Params).valid = true := by decide

/-- StepKeepsInv, InvMakesStepSafe, RingIsQueue: from `running` the step publishes the element stored in slot 1; a get at `running`'s
ring answers its oldest element. -/
theorem witness_StepKeepsInv :
    after (fun t => (t.rings.map Ring.wr, t.obs)) (step running) = some ([2, 0], [.result .poll (.ok .unit)]) ∧
    running.rings[(0 : BitVec 8).toNat]? = some ringInRun ∧ contents 2 ringInRun = [0x41] ∧
    after (fun t => t.obs) (step { pollNext running (opOf 0x02000000) with
      poll := { running.poll with prog := [opOf 0x02000000], stage := .getPublish 0 0 0x41 } }) =
      some [.result .poll (.ok (.elem 0x41))] := by decide

/-- RingIsQueue: RB_PUT μ2 stores its operand in slot RB_WR, modulo 2^RB_T_W. -/
theorem witness_RingIsQueue_store :
    after (fun t => t.rings[0]?.map Ring.viewSlots) (step (pollNext (onRing (ringAt 2 1) (.putStore 0 2 0))
      { opOf 0x01000000 with a := { base.portA with elem := 0x155 } })) =
      some (some (.elems [some 0x41, some 0x42, some 0x55])) := by decide

/-- RingIsQueue's answers Full and Empty are reached. -/
theorem witness_RingIsQueue_full_empty :
    after (fun t => t.obs) (step (pollNext (onRing (ringAt 2 0) .start) (opOf 0x01000000))) = some [.result .poll .full] ∧
    after (fun t => t.obs) (step (pollNext (onRing (ringAt 2 2) .start) (opOf 0x02000000))) = some [.result .poll .empty] := by decide

/-- MarksNeverCleared: an operation and an event's step with a fault recorded, a step with REFUSED set. -/
theorem witness_MarksNeverCleared :
    after State.faults (exec .capPoll { base with faults := [.slotIndex] }) = some [.slotIndex] ∧
    after State.faults (stepEvent .dacReady { base with faults := [.slotIndex] }) = some [.slotIndex] ∧
    after State.refused (step { pollNext base (opOf 0x13000000) with refused := true }) = some true := by decide

/-- The last CalibrateMax pulse of V-CAL-2 is next. -/
def calEnd : State :=
  pulseNext { freqStart with state := 2, count := 1, flags := 0b10, minOffset := Reg.of (-300), maxOffset := Reg.of 700 } 0x001F4240 1100

/-- SlopePersists: a step that changes SLOPE, one that changes DAC_CENTER, one that counts a lost pulse. -/
theorem witness_SlopePersists :
    after (fun t => decide (t.steer.slope = calEnd.steer.slope)) (step calEnd) = some false ∧
    after (fun t => decide (t.steer.dacCenter = freqStart.dacCenter)) (step (pulseNext freqStart 0x001F4243 1100)) = some false ∧
    after (fun t => t.stats.ppsLoss) (step (pulseNext freqStart 0x001F4243 1126)) = some 1 := by decide

/-- SteeringTransitions: a step that changes ST_STATE, CAL_ERR set before it. -/
theorem witness_SteeringTransitions :
    calEnd.steer.flags.getLsbD 1 = true ∧ after (fun t => (t.steer.state, t.steer.flags)) (step calEnd) = some (3, 0b11) := by decide

/-- TimerIndependence. -/
theorem witness_TimerIndependence :
    after (fun t => t.ft.cnt) (exec .ftTick (hwBase .ftimer 0)) = some 1 ∧
    after (fun t => t.isr.map IsrCtx.mu) (exec .ftIsr (inHandler .ftIsr 1)) = some (some 2) ∧
    after (fun t => t.cap.cnt) (exec .capCntTick (hwBase .capcnt 0)) = some 1 := by decide

/-- Does the step of `s` answer a next state with another value of `f`? -/
def changes {α : Type} [DecidableEq α] (f : State → α) (s : State) : Bool :=
  match nextOf (step s) with
  | some t => !decide (f t = f s)
  | none => false

/-- An event of a hardware agent with word `w`, next. -/
def hwNext (s : State) (a : HwAgent) (w : Word) : State := { s with sched := [.hw a (opOf w)] }

/-- UnitsHaveTheirWriters: each premise is met by some step. -/
theorem witness_UnitsHaveTheirWriters :
    changes State.rings running ∧ changes (fun s => s.cap.cnt) (hwNext running .capcnt 0x10000000) ∧
    changes (fun s => s.cap.latchR) (hwNext running .capcnt 0x11000000) ∧
    changes (fun s => s.cap.latchF) (hwNext running .capcnt 0x11010000) ∧
    changes (fun s => s.cap.ie) { State.reset with sched := [.poll] } ∧
    changes (fun s => s.cap.ovc) { beforePublish 0b011 5 3 1 0 with sched := [.isr] } ∧
    changes (fun s => s.cap.fresh) { beforePublish 0b011 5 3 1 0 with sched := [.isr] } ∧
    changes (fun s => s.rx.slots) { hwNext running .dmaRx 0x31000000 with
      sched := [.hw .dmaRx { word := 0x31000000, a := { base.portA with word := 1 }, b := 0 }] } ∧
    changes (fun s => s.tx.slots) (inExternal .tx [.fill 15 1]) := by decide

theorem witness_UnitsHaveTheirWriters_more :
    changes (fun s => (s.xch .rx).last) { inHandler (.xchIsr .rx) 2 with
      isr := some { IsrCtx.enter (.xchIsr .rx) with mu := 2, hX := 0b01 }, sched := [.isr] } ∧
    changes (fun s => (s.xch .tx).errcnt) { inHandler (.xchIsr .tx) 4 with
      isr := some { IsrCtx.enter (.xchIsr .tx) with mu := 4, hX := 0b11 }, sched := [.isr] } ∧
    changes (fun s => (s.xch .rx).ie) (pollNext base (opOf 0x30000000)) ∧
    changes State.detCnt { inAlign .alignEntry 5 with sched := [.isr] } ∧
    changes (fun s => s.ft.cnt) (hwNext base .ftimer 0x51000000) ∧
    changes (fun s => s.ft.top) { inHandler .ftIsr 2 with ft := { base.ft with pend := 2, armed := true }, sched := [.isr] } ∧
    changes (fun s => s.ft.pend) (pollNext base (opOf 0x50000001)) ∧
    changes State.realigners (pollNext base (opOf 0x6001012C)) := by decide

theorem witness_UnitsHaveTheirWriters_rest :
    changes (fun s => s.cap.sr) (hwNext running .capcnt 0x11010000) ∧ changes State.steer calEnd ∧
    changes (fun s => (s.xch .rx).cur) { inHandler (.xchIsr .rx) 2 with
      isr := some { IsrCtx.enter (.xchIsr .rx) with mu := 2, hX := 0b01 }, sched := [.isr] } ∧
    changes (fun s => (s.xch .rx).dmaCur) (hwNext running .dmaRx 0x31000000) ∧
    changes (fun s => (s.xch .tx).dmaNxt) (pollNext base (opOf 0x30000000)) ∧
    changes (fun s => (s.xch .rx).sr) (hwNext (rxWith { valid := true, slot := 2, pos := 15 } { valid := true, slot := 3 })
      .dmaRx 0x31000000) ∧
    changes (fun s => s.ft.matched) (hwNext { base with ft := { base.ft with cnt := 511 } } .ftimer 0x51000000) ∧
    changes (fun s => s.stats.desync) { inAlign (.alignOdd 2 0) 0 with sched := [.isr] } ∧
    changes (fun s => s.stats.phaseBusy) { inAlign (.alignFinish true) 0 with sched := [.isr] } ∧
    changes (fun s => s.stats.ppsLoss) (pulseNext freqStart 0x001F4243 1126) ∧
    changes (fun s => s.stats.calFail) (pulseNext { freqStart with
      state := 2, count := 1, minOffset := Reg.of (-5), maxOffset := Reg.of 0 } 0x001F4240 1100) ∧
    changes State.isr (dispatching 0b001) := by decide

/-- RbPutSteps: POLL on ring 0 at each stage, full and not; the last slot; the interrupt context on ring 1. -/
theorem witness_RbPutSteps :
    ActsFor (onRing (ringAt 2 0) .start) base.cfg.rbProducer[(0 : BitVec 8).toNat]? ∧
    ActsFor (inExternal .rx []) base.cfg.rbProducer[(1 : BitVec 8).toNat]? ∧
    ((0 : BitVec 8).toNat < base.cfg.rbCount ∧ (1 : BitVec 8).toNat < base.cfg.rbCount) ∧
    (onRing (ringAt 2 0) .start).rings[(0 : BitVec 8).toNat]? = some (ringAt 2 0) ∧
    ((onRing (ringAt 2 0) .start).stage = .start ∧ (2 + 1) % (base.cfg.rbN + 1) = (ringAt 2 0).rd ∧
      (2 + 1) % (base.cfg.rbN + 1) ≠ (ringAt 2 1).rd) ∧
    ((onRing (ringAt 2 1) (.putStore 0 2 0)).stage = .putStore (0 : BitVec 8).toNat 2 0 ∧ 2 < (ringAt 2 1).buf.length) ∧
    (onRing (ringAt 2 1) (.putPublish 0 0)).stage = .putPublish (0 : BitVec 8).toNat 0 :=
  ⟨.inl ⟨rfl, rfl⟩, .inr ⟨rfl, rfl, _, _, rfl, rfl, rfl⟩, by decide, rfl, by decide, by decide, rfl⟩

/-- RbGetSteps: empty and not, the last slot. -/
theorem witness_RbGetSteps :
    ActsFor (onRing (ringAt 1 1) .start) base.cfg.rbConsumer[(0 : BitVec 8).toNat]? ∧
    ((ringAt 1 1).rd = (ringAt 1 1).wr ∧ (ringAt 0 2).rd ≠ (ringAt 0 2).wr) ∧
    ((onRing (ringAt 0 2) (.getRead 0 2)).stage = .getRead (0 : BitVec 8).toNat 2 ∧ (ringAt 0 2).readSlot 2 = .ok 0x43) ∧
    (onRing (ringAt 0 2) (.getPublish 0 2 0x43)).stage = .getPublish (0 : BitVec 8).toNat 2 0x43 :=
  ⟨.inl ⟨rfl, rfl⟩, by decide, ⟨rfl, rfl⟩, rfl⟩

/-- FullEmptyExclusive: a put that answers Full; a get on the same state answers a next state; a get that answers Empty. -/
theorem witness_FullEmptyExclusive :
    1 ≤ base.cfg.rbN ∧
    after (fun t => t.obs) (exec (.rbPut 0) { onRing (ringAt 2 0) .start with agent := .poll }) = some [.result .poll .full] ∧
    after (fun t => t.obs) (exec (.rbGet 0) { onRing (ringAt 2 0) .start with agent := .poll }) = some [] ∧
    after (fun t => t.obs) (exec (.rbGet 0) { onRing (ringAt 2 2) .start with agent := .poll }) = some [.result .poll .empty] := by
  decide

/-- CapCntTick, CapEdge, FtTick at their boundaries. -/
theorem witness_CapCntTick_CapEdge_FtTick :
    (hwBase .capcnt 0).agent = .hw .capcnt ∧ (hwBase .capcnt 0).cap.cnt ≠ 0xFFFF ∧
    ({ base.cap with cnt := 0xFFFF } : Capture).cnt = 0xFFFF ∧ (hwBase .ftimer 0).agent = .hw .ftimer ∧
    ({ base.ft with cnt := 511 } : FrameTimer).cnt = base.ft.top - 1 ∧ base.ft.cnt ≠ base.ft.top - 1 := by decide

/-- CapIsrSteps: each micro-step; a latch read that holds a value, none read. -/
theorem witness_CapIsrSteps :
    InHandler (inHandler .capIsr 1) (IsrCtx.enter .capIsr) .capIsr 1 ∧
    InHandler (inHandler .capIsr 2) { IsrCtx.enter .capIsr with mu := 2 } .capIsr 2 ∧
    InHandler (inHandler .capIsr 3) { IsrCtx.enter .capIsr with mu := 3 } .capIsr 3 ∧
    InHandler (inHandler .capIsr 4) { IsrCtx.enter .capIsr with mu := 4 } .capIsr 4 ∧
    InHandler (inHandler .capIsr 5) { IsrCtx.enter .capIsr with mu := 5 } .capIsr 5 ∧
    ((0b010 : BitVec 3).getLsbD 1 = true ∧ (0b100 : BitVec 3).getLsbD 2 = true ∧ running.cap.latchR.written = true ∧
      (IsrCtx.enter .capIsr).hSr.getLsbD 1 = false) := by decide

/-- `running` with the counter about to wrap, the event `e` next. -/
def wrapping (e : Event) : State := { runningOn [e] with cap := { running.cap with cnt := 0xFFFF } }

theorem witness_Inv_wrapping (e : Event) : Safety.Inv (wrapping e) :=
  { witness_Inv_on [e] with capture := ⟨fun _ => rfl, witness_Inv.capture.ldf, witness_Inv.capture.newR, witness_Inv.capture.newF⟩ }

/-- TrueCountAdvances: a tick at the wrap with OVF clear, and a step that is no tick. -/
theorem witness_TrueCountAdvances :
    (wrapping (.hw .capcnt (opOf 0x10000000))).cap.cnt = 0xFFFF ∧
    (wrapping (.hw .capcnt (opOf 0x10000000))).cap.sr.getLsbD 0 = false ∧ decode (opOf 0x10000000).word = .ok .capCntTick ∧
    after trueCount (step (wrapping (.hw .capcnt (opOf 0x10000000)))) = some 0x00010000 ∧
    (wrapping (.hw .capcnt (opOf 0x11000000))).nextEvent = .hw .capcnt (opOf 0x11000000) ∧
    decode (opOf 0x11000000).word ≠ .ok .capCntTick ∧
    after trueCount (step (wrapping (.hw .capcnt (opOf 0x11000000)))) = some 0x0000FFFF := by decide

/-- TimestampExact: V-CAP-4 (an edge exactly at the wrap, `e = m1 = m2`), and V-CAP-6 (no overflow read). -/
theorem witness_TimestampExact :
    (∃ c, InHandler (beforePublish 0b011 5 0 0 0) c .capIsr 5 ∧ c.hTv = BitVec.ofNat 16 0x60000 ∧
      (5 + (if c.hSr.getLsbD 0 = true then 1 else 0)) % 2 ^ 16 = 0x60000 / 2 ^ 16 % 2 ^ 16 ∧
      c.hSr.getLsbD 1 = true ∧ c.hRa = BitVec.ofNat 16 0x60000) ∧
    (∃ c, InHandler (beforePublish 0b100 5 0x8003 0 0x8000) c .capIsr 5 ∧ c.hTv = BitVec.ofNat 16 0x58003 ∧
      (5 + (if c.hSr.getLsbD 0 = true then 1 else 0)) % 2 ^ 16 = 0x58003 / 2 ^ 16 % 2 ^ 16 ∧
      c.hSr.getLsbD 0 = false ∧ 0x58000 / 2 ^ 16 = 0x58003 / 2 ^ 16 ∧ c.hSr.getLsbD 2 = true ∧ c.hRb = BitVec.ofNat 16 0x58000) :=
  ⟨⟨_, ⟨rfl, rfl, rfl, rfl, rfl⟩, by decide⟩, ⟨_, ⟨rfl, rfl, rfl, rfl, rfl⟩, by decide⟩⟩

/-- CapPoll. -/
theorem witness_CapPoll :
    base.agent = .poll ∧ ({ base.cap with fresh := 0b11, tsR := Reg.of 1, tsF := Reg.of 2 } : Capture).tsR.written = true ∧
    (0b11 : BitVec 2).getLsbD 0 = true ∧ (0b11 : BitVec 2).getLsbD 1 = true := by decide

/-- A steering state `st` with ST_COUNT `n` behind `freqStart`'s gate. -/
def steerAt (st : BitVec 3) (n : Word) : Steering :=
  { freqStart with state := st, count := n, minOffset := Reg.of (-1000), maxOffset := Reg.of 750 }

/-- PulseRefused, and the premise of the pulse statements: the gate at both of its ends, and one tick outside each (V-GATE-1 to 4). -/
theorem witness_PulseRefused :
    GateOpen (pulse freqStart 0x001F4240 1075) ∧ GateOpen (pulse freqStart 0x001F4240 1125) ∧
    ¬ (75 ≤ ((1074 : Word) - freqStart.lastTick).toNat ∧ ((1074 : Word) - freqStart.lastTick).toNat ≤ 125) ∧
    ¬ (75 ≤ ((1126 : Word) - freqStart.lastTick).toNat ∧ ((1126 : Word) - freqStart.lastTick).toNat ≤ 125) := by decide

/-- InitPulse, CalMinPulse, CalMaxPulse: the gate open in each state, ST_COUNT at 1 and above, accumulators written; HAS_CAL set and
not. -/
theorem witness_InitPulse_CalMinPulse_CalMaxPulse :
    GateOpen (pulse (steerAt 0 2) 0x001F4240 1100) ∧ GateOpen (pulse (steerAt 0 1) 0x001F4240 1100) ∧
    (steerAt 0 1).state = 0 ∧ (steerAt 0 1).flags.getLsbD 0 = true ∧ ({ steerAt 0 1 with flags := 0 } : Steering).flags.getLsbD 0 = false ∧
    GateOpen (pulse (steerAt 1 1) 0x001F4240 1100) ∧ (steerAt 1 1).state = 1 ∧ (steerAt 1 1).minOffset.written = true ∧
    GateOpen (pulse (steerAt 2 2) 0x001F4240 1100) ∧ (steerAt 2 2).state = 2 ∧ (steerAt 2 2).maxOffset.written = true ∧
    (steerAt 2 2).count ≠ 1 := by decide

/-- CalibrationAccepted: V-CAL-1 with this pulse's offset +250. -/
theorem witness_CalibrationAccepted :
    GateOpen (pulse (steerAt 2 1) 0x001F433A 1100) ∧ (steerAt 2 1).state = 2 ∧ (steerAt 2 1).count = 1 ∧
    (1000 : Word) = stored ((steerAt 2 1).maxOffset.val.toInt + offset (pulse (steerAt 2 1) 0x001F433A 1100)) ∧
    (steerAt 2 1).minOffset.val.toInt = -1000 ∧ (0 : Int) < (1000 : Word).toInt ∧
    (131 : Word) = stored (((base.cfg.periods : Int) * base.cfg.dacRange).tdiv ((1000 : Word).toInt - (-1000))) ∧
    (32750 : Word) = stored ((-(131 : Word).toInt * (-1000)).tdiv base.cfg.periods) ∧ 1 ≤ base.cfg.periods := by decide

/-- CalibrationRefused: V-CAL-6, the accumulator at exactly 0. -/
theorem witness_CalibrationRefused :
    GateOpen (pulse (steerAt 2 1) (0x001F4240 - 750) 1100) ∧
    (0 : Word) = stored ((steerAt 2 1).maxOffset.val.toInt + offset (pulse (steerAt 2 1) (0x001F4240 - 750) 1100)) ∧
    ¬ ((steerAt 2 1).minOffset.val.toInt < 0 ∧ 0 < (0 : Word).toInt) := by decide

/-- FreqPulse (V-ST-8: offset one past the threshold) and PhasePulse (V-ST-14). -/
theorem witness_FreqPulse_PhasePulse :
    GateOpen (pulse freqStart 0x001F4246 1100) ∧ freqStart.state = 3 ∧ freqStart.slope.written = true ∧
    freqStart.dacCenter.written = true ∧ offset (pulse freqStart 0x001F4246 1100) = 6 ∧
    (32554 : Word) = stored (freqStart.dacCenter.val.toInt - (offset (pulse freqStart 0x001F4246 1100) * 131).tdiv 4) ∧
    GateOpen (pulse (steerAt 4 0) 0x001F4273 1100) ∧ (steerAt 4 0).state = 4 ∧ offset (pulse (steerAt 4 0) 0x001F4273 1100) = 51 := by
  decide

/-- AnomalyReset: P4's pulse 15. -/
theorem witness_AnomalyReset :
    (pulse { freqStart with lastTick := 1400 } 0x00E5E1C0 1600).agent = .poll ∧ base.cfg.gateMin = 75 ∧ base.cfg.gateMax = 125 ∧
    base.cfg.initDiscard = 2 ∧ (1600 : Word) - ({ freqStart with lastTick := 1400 } : Steering).lastTick = 200 := by decide

/-- XchStart: not started, and started in one direction. -/
theorem witness_XchStart :
    base.agent = .poll ∧ base.rx.ie = false ∧ base.tx.ie = false ∧ ({ base.tx with ie := true } : Exchange).ie = true := by decide

/-- DmaWord: the last word of the last slot, an idle engine with an armed next descriptor, both exhausted; transmit. -/
theorem witness_DmaWord :
    (rxWith { valid := true, slot := 3, pos := 15 } { valid := true, slot := 0 }).agent = .hw .dmaRx ∧
    transfer (rxWith { valid := true, slot := 3, pos := 15 } { valid := true, slot := 0 }).rx =
      some (3, 15, { valid := true, slot := 0 }) ∧
    transfer (rxWith { valid := false, slot := 3, pos := 16 } { valid := true, slot := 0 }).rx =
      some (0, 0, { valid := false, slot := 0 }) ∧
    Memory.wf base.cfg.nRx base.rx.slots = true ∧ (3 : Byte).toNat < base.cfg.nRx ∧ (15 : Byte).toNat < 16 ∧
    transfer base.rx = none ∧ transfer base.tx = none ∧
    transfer running.tx = some (0, 7, { valid := true, slot := 1 }) := by decide

theorem witness_DmaWord_tx : Memory.readWord running.cfg.nTx running.tx.slots (0 : Byte).toNat (7 : Byte).toNat = .ok 0 := rfl

/-- XchIsrSteps: each micro-step, END and BUFF read as set and as clear. -/
theorem witness_XchIsrSteps :
    InHandler (inHandler (.xchIsr .tx) 1) (IsrCtx.enter (.xchIsr .tx)) (.xchIsr .tx) 1 ∧
    InHandler (inHandler (.xchIsr .tx) 2) { IsrCtx.enter (.xchIsr .tx) with mu := 2 } (.xchIsr .tx) 2 ∧
    InHandler (inHandler (.xchIsr .tx) 3) { IsrCtx.enter (.xchIsr .tx) with mu := 3 } (.xchIsr .tx) 3 ∧
    InHandler (inHandler (.xchIsr .tx) 4) { IsrCtx.enter (.xchIsr .tx) with mu := 4 } (.xchIsr .tx) 4 ∧
    InHandler (inHandler (.xchIsr .tx) 5) { IsrCtx.enter (.xchIsr .tx) with mu := 5 } (.xchIsr .tx) 5 ∧
    InHandler (inHandler (.xchIsr .tx) 6) { IsrCtx.enter (.xchIsr .tx) with mu := 6 } (.xchIsr .tx) 6 ∧
    ((0b11 : BitVec 2).getLsbD 0 = true ∧ (0b11 : BitVec 2).getLsbD 1 = true ∧ (0b00 : BitVec 2).getLsbD 0 = false ∧
      (0b01 : BitVec 2).getLsbD 1 = false) := by decide

/-- CallbackSteps: a transmit callback at the last word of the last slot, a receive callback that fills, a return. -/
theorem witness_CallbackSteps :
    Live (inExternal .tx [.fill 15 1]) ∧ (inExternal .tx [.fill 15 1]).nextEvent = .isr ∧
    (inExternal .tx [.fill 15 1]).isr.map IsrCtx.done = some 3 ∧ (3 : Byte).toNat < base.cfg.nTx ∧
    Memory.wf base.cfg.nTx (inExternal .tx []).tx.slots = true ∧ (inExternal .tx [.fill 15 1]).nextCbItem = .fill 15 1 ∧
    (inExternal .rx [.fill 0 1]).isr.map IsrCtx.handler = some (.xchIsr .rx) ∧ (inExternal .rx [.ret]).nextCbItem = .ret :=
  ⟨⟨rfl, by decide⟩, by decide⟩

/-- RingInvariantRestored: V-XCH-12's ring before its last word; the ring of depth 2's index wraps there. -/
theorem witness_RingInvariantRestored :
    Outstanding 4 { base.rx with
      cur := 3, dmaCur := { valid := true, slot := 3, pos := 15 }, dmaNxt := { valid := true, slot := 0 } } ∧
    base.rx.sr = 0 ∧ Memory.wf 4 base.rx.slots = true ∧ (4 : Nat) = base.cfg.depth .rx :=
  ⟨⟨by decide, rfl, rfl, rfl, by decide⟩, rfl, by decide, rfl⟩

/-- The receive engine before the sixteenth word of slot 1, END still set from slot 0 (V-XCH-5), or with a next descriptor armed. -/
def secondEnd (armed : Bool) : State :=
  { rxWith { valid := true, slot := 1, pos := 15 } { valid := armed, slot := 2 } with
    rx := { (rxWith { valid := true, slot := 1, pos := 15 } { valid := armed, slot := 2 }).rx with sr := 0b01 } }

/-- SecondCompletionOverruns: V-XCH-5, a completion with a next descriptor armed, the last slot; XCH_ISR μ3 arms one. -/
theorem witness_SecondCompletionOverruns :
    transfer (secondEnd false).rx = some (1, 15, { valid := false, slot := 2 }) ∧
    transfer (secondEnd true).rx = some (1, 15, { valid := true, slot := 2 }) ∧
    (secondEnd false).agent = .hw (dmaAgent .rx) ∧ Memory.wf 4 (secondEnd false).rx.slots = true ∧ (3 : Byte).toNat < 4 ∧
    after (fun t => (t.rx.sr, t.rx.dmaCur.valid)) (exec (.dmaWord .rx) (secondEnd false)) = some (0b11, false) ∧
    after (fun t => (t.xch .rx).dmaNxt) (step { inHandler (.xchIsr .rx) 3 with
      isr := some { IsrCtx.enter (.xchIsr .rx) with mu := 3, hX := 0b01, done := 3 }, sched := [.isr] }) =
      some { valid := true, slot := 1 } ∧ (base.xch .rx).dmaNxt.valid = false := by decide

/-- AlignSteps: DET_CNT at 1 and above, the first and the last slot, a good and a bad one, both answers of the request. -/
theorem witness_AlignSteps :
    (∃ c, InAlign (inAlign .alignEntry 1) c .alignEntry) ∧ (inAlign .alignEntry 1).detCnt = 1 ∧ (inAlign .alignEntry 2).detCnt ≠ 1 ∧
    (∃ c, InAlign (inAlign (.alignEven 3) 0) c (.alignEven 3)) ∧
    Memory.readWord base.cfg.nRx (inAlign (.alignEven 3) 0).rx.slots 3 0 = .ok 0 ∧
    (∃ c, InAlign (inAlign (.alignOdd 3 0x36000000) 0) c (.alignOdd 3 0x36000000)) ∧
    Memory.readWord base.cfg.nRx (inAlign (.alignOdd 3 0) 0).rx.slots 3 8 = .ok 0 ∧ base.cfg.nRx ≤ 3 + 1 ∧ 0 + 1 < base.cfg.nRx ∧
    ((0x36000000 : Word).extractLsb' 25 7 = base.cfg.fasPattern ∧ (0x40000000 : Word).extractLsb' 30 2 = base.cfg.nfasPattern) ∧
    ¬ ((0x36000000 : Word).extractLsb' 25 7 = base.cfg.fasPattern ∧ (0 : Word).extractLsb' 30 2 = base.cfg.nfasPattern) ∧
    (∃ c, InAlign (inAlign (.alignFinish true) 0) c (.alignFinish true)) :=
  ⟨⟨_, rfl, rfl, rfl, rfl⟩, by decide, by decide, ⟨_, rfl, rfl, rfl, rfl⟩, rfl, ⟨_, rfl, rfl, rfl, rfl⟩, rfl, by decide, by decide,
    by decide, by decide, ⟨_, rfl, rfl, rfl, rfl⟩⟩

/-- A slot that passes the predicate (95_test_vectors.md, Alignment). -/
def goodSlot : List Word := ((List.replicate 16 (0 : Word)).set 0 0x36000000).set 8 0x40000000

/-- ALIGN_STEP about to check, the slots `slots`. -/
def scanStart (slots : Memory) : State := { inAlign .alignEntry 1 with rx := { base.rx with slots := slots } }

/-- ScanIssuesOneRequest: all slots good (V-AL-2); slot 2 corrupted (V-AL-3). -/
theorem witness_ScanIssuesOneRequest :
    (∃ c, InAlign (scanStart (List.replicate 4 goodSlot)) c .alignEntry) ∧ (scanStart []).detCnt = 1 ∧
    Memory.wf base.cfg.nRx (List.replicate 4 goodSlot) = true ∧ 1 ≤ base.cfg.nRx ∧ base.ft.pend ≠ 3 ∧
    (∀ k, k < 4 → SlotGood (scanStart (List.replicate 4 goodSlot)) k) ∧
    ¬ SlotGood (scanStart ((List.replicate 4 goodSlot).set 2 (List.replicate 16 0))) 2 := by
  refine ⟨⟨_, rfl, rfl, rfl, rfl⟩, rfl, by decide, by decide, by decide, fun k hk => ?_, ?_⟩
  · match k, hk with
    | 0, _ => exact ⟨_, _, rfl, rfl, by decide, by decide⟩
    | 1, _ => exact ⟨_, _, rfl, rfl, by decide, by decide⟩
    | 2, _ => exact ⟨_, _, rfl, rfl, by decide, by decide⟩
    | 3, _ => exact ⟨_, _, rfl, rfl, by decide, by decide⟩
  · rintro ⟨w0, w8, h0, _, h, _⟩
    cases h0
    exact absurd h (by decide)

/-- ScanIssuesOneRequest at the first and at the last slot, the latter with a request pending, so that it is answered Busy. -/
theorem witness_ScanIssuesOneRequest_ends :
    ¬ SlotGood (scanStart ((List.replicate 4 goodSlot).set 0 (List.replicate 16 0))) 0 ∧
    (∀ j, j < 3 → SlotGood (scanStart ((List.replicate 4 goodSlot).set 3 (List.replicate 16 0))) j) ∧
    ¬ SlotGood (scanStart ((List.replicate 4 goodSlot).set 3 (List.replicate 16 0))) 3 ∧
    ({ base.ft with pend := 2 } : FrameTimer).pend ≠ 0 ∧ ({ base.ft with pend := 2 } : FrameTimer).pend ≠ 3 := by
  refine ⟨?_, fun k hk => ?_, ?_, by decide, by decide⟩
  · rintro ⟨w0, w8, h0, _, h, _⟩
    cases h0
    exact absurd h (by decide)
  · match k, hk with
    | 0, _ => exact ⟨_, _, rfl, rfl, by decide, by decide⟩
    | 1, _ => exact ⟨_, _, rfl, rfl, by decide, by decide⟩
    | 2, _ => exact ⟨_, _, rfl, rfl, by decide, by decide⟩
  · rintro ⟨w0, w8, h0, _, h, _⟩
    cases h0
    exact absurd h (by decide)

/-- PhaseRequest: idle and pending, from POLL and at ALIGN_STEP's request. -/
theorem witness_PhaseRequest :
    base.agent = .poll ∧ base.ft.pend = 0 ∧ ({ base.ft with pend := 2 } : FrameTimer).pend = 2 ∧
    (inAlign .alignRequest 0).agent = .isr ∧ (inAlign .alignRequest 0).isr.map IsrCtx.cb = some .alignRequest := by decide

/-- FtIsr: both micro-steps, a request pending and none. -/
theorem witness_FtIsr :
    InHandler (inHandler .ftIsr 1) (IsrCtx.enter .ftIsr) .ftIsr 1 ∧
    InHandler (inHandler .ftIsr 2) { IsrCtx.enter .ftIsr with mu := 2 } .ftIsr 2 ∧ (inHandler .ftIsr 2).ft.pend ≠ 3 := by decide

/-- A nudge `pend` accepted, the running period at count `c`, the two periods after it `n1` and 512 ticks. -/
def nudgeStart (pend : BitVec 2) (c : Half) (n1 : Nat) : State :=
  { base with
    ft := { pend := pend, armed := true, top := 512, cnt := c, matched := false }
    sched := ftTicks (512 - c.toNat) ++ ftHandler ++ (ftTicks n1 ++ ftHandler ++ ftTicks 512) }

/-- NudgeLastsOnePeriod: program P3's nudge at the last count of the period, a Decrease at count 0. -/
theorem witness_NudgeLastsOnePeriod :
    Live (nudgeStart 1 511 513) ∧ Live (nudgeStart 2 0 511) ∧ (nudgeStart 2 0 511).isr = none ∧
    (nudgeStart 2 0 511).primask = false ∧ (nudgeStart 2 0 511).ft.top = base.cfg.nominalTop ∧
    (512 : Nat) = base.cfg.nominalTop.toNat ∧ (511 : Half).toNat < 512 ∧ (0 : Half).toNat < 512 :=
  ⟨⟨rfl, by decide⟩, ⟨rfl, by decide⟩, rfl, rfl, rfl, by decide, by decide, by decide⟩

/-- RaSetAlignment, RaRealignFrame: the last realigner. -/
theorem witness_RaSetAlignment_RaRealignFrame :
    (1 : BitVec 8).toNat < base.cfg.raCount ∧ (1 : BitVec 8).toNat < base.realigners.length ∧
    ActsFor base base.cfg.raOwner[(1 : BitVec 8).toNat]? ∧
    base.realigners[(1 : BitVec 8).toNat]? = some (Realigner.reset Params.default) ∧
    (Realigner.reset Params.default).reframe.length = base.cfg.f ∧ (255 : Byte).toNat / 8 < base.cfg.f :=
  ⟨by decide, by decide, .inl ⟨rfl, rfl⟩, rfl, rfl, by decide⟩

/-- A machine whose realigner 1 is owned by ISR, inside an external callback of direction `d`, the realigner at offset 255. -/
def isrRealign (d : Dir) : State :=
  { inExternal d [] with
    cfg := { base.cfg with raOwner := [.poll, .isr] }
    realigners := [Realigner.reset Params.default, { offset := 255, carry := 0, reframe := List.replicate 32 0 }] }

/-- StreamDelayed: the largest offset, an instance of POLL and one of ISR. -/
theorem witness_StreamDelayed :
    ActsFor (realignBase 255 0 vecRa6) base.cfg.raOwner[(0 : BitVec 8).toNat]? ∧ (255 : Byte).toNat < base.cfg.f * 8 ∧
    (realignBase 255 0 vecRa6).realigners[(0 : BitVec 8).toNat]? =
      some { offset := 255, carry := 0, reframe := List.replicate base.cfg.f 0 } ∧
    ActsFor (isrRealign .rx) (isrRealign .rx).cfg.raOwner[(1 : BitVec 8).toNat]? ∧
    (isrRealign .rx).realigners[(1 : BitVec 8).toNat]? =
      some { offset := 255, carry := 0, reframe := List.replicate (isrRealign .rx).cfg.f 0 } :=
  ⟨.inl ⟨rfl, rfl⟩, by decide, rfl, .inr ⟨rfl, rfl, _, _, rfl, rfl, rfl⟩, rfl⟩

/-- 43_frame_exchange.md R176, R177: RB_PUT by the declared producer and RA_REALIGN_FRAME by the owner are refused in the transmit
callback and executed in the receive callback. -/
theorem test_callback_writes :
    after State.refused (exec (.rbPut 1) (inExternal .tx [])) = some true ∧
    after State.refused (exec (.rbPut 1) (inExternal .rx [])) = some false ∧
    after State.refused (exec (.raRealignFrame 1) (isrRealign .tx)) = some true ∧
    after State.refused (exec (.raRealignFrame 1) (isrRealign .rx)) = some false := by decide

/-- StatsSnapshot. -/
theorem witness_StatsSnapshot : base.agent = .poll := rfl

/-- ModelFaults: the premises on registers that hold no value, on ST_STATE and on PA_PEND. -/
theorem witness_ModelFaults :
    (base.mark .slotIndex).faults = [.slotIndex] ∧ ({ base.cfg with rbN := 0 } : Params).valid = false ∧
    (0b01 : BitVec 2).getLsbD 0 = true ∧ (0b10 : BitVec 2).getLsbD 1 = true ∧ base.cap.tsR.written = false ∧
    base.cap.tsF.written = false ∧ base.cap.latchR.written = false ∧ base.cap.latchF.written = false ∧
    GateOpen (pulse { freqStart with slope := Reg.blank 0 } 0x001F4240 1100) ∧
    GateOpen (pulse { freqStart with state := 4, dacCenter := Reg.blank 0 } 0x001F4240 1100) ∧
    GateOpen (pulse { freqStart with state := 1, count := 4 } 0x001F4240 1100) ∧ (4 : Word).toNat ≤ base.cfg.periods ∧
    GateOpen (pulse { freqStart with state := 2, count := 1 } 0x001F4240 1100) ∧ freqStart.minOffset.written = false ∧
    freqStart.maxOffset.written = false ∧ GateOpen (pulse { freqStart with state := 5 } 0x001F4240 1100) ∧
    ({ base.ft with pend := 3 } : FrameTimer).pend = 3 := by decide

/-- ModelFaults: an unwritten slot under RB_GET, and the indices one past their ranges. -/
theorem witness_ModelFaults_index :
    (Ring.reset Params.default).buf[(0 : Nat)]? = some (Reg.blank 0) ∧
    (onRing (Ring.reset Params.default) (.getRead 0 0)).stage = .getRead (0 : BitVec 8).toNat 0 ∧
    transfer (rxWith { valid := true, slot := 4, pos := 0 } { valid := false, slot := 0 }).rx = some (4, 0, { valid := false, slot := 0 }) ∧
    base.cfg.depth .rx ≤ (4 : Byte).toNat ∧ 16 ≤ (16 : Byte).toNat ∧ base.cfg.nRx ≤ 4 ∧ base.cfg.nTx ≤ (4 : Byte).toNat ∧
    (ringAt 2 0).buf.length ≤ 3 ∧ ([] : List Ring).length ≤ (0 : BitVec 8).toNat ∧ ([] : List Byte).length < (8 : Byte).toNat / 8 := by
  decide

end Sys2Proof.Tests
end

/-! # Contexts: how the issuing context goes on

The control points of the issuing contexts: rules for `setStage`, `advance` and `complete` by the agent that issues
(10_state.md R20; 60_exceptions.md R241, R251). -/

namespace Sys2Proof.Machine

variable {s : State}

/-- An external callback runs in the interrupt context. -/
theorem inExternal_iff : s.inExternal = true ↔ ∃ c st, s.isr = some c ∧ c.cb = .external st := by
  unfold State.inExternal
  cases s.isr with
  | none => simp
  | some c => cases hcb : c.cb <;> simp [hcb]

theorem setStage_of_poll (h : s.agent = .poll) (st : RbStage) :
    s.setStage st = { s with poll := { s.poll with stage := st } } := by
  simp [State.setStage, h]

theorem setStage_of_hw {a : HwAgent} (h : s.agent = .hw a) (st : RbStage) : s.setStage st = s := by
  simp [State.setStage, h]

theorem setStage_of_callback {c : IsrCtx} {st : RbStage} (h : s.agent = .isr) (hc : s.isr = some c)
    (hx : c.cb = .external st) (st' : RbStage) :
    s.setStage st' = { s with isr := some { c with cb := .external st' } } := by
  simp [State.setStage, h, hc, hx]

/-- The interrupt context outside an external callback has no place to move. -/
theorem setStage_of_handler (h : s.agent = .isr) (hx : s.inExternal = false) (st : RbStage) : s.setStage st = s := by
  cases hc : s.isr with
  | none => simp [State.setStage, h, hc]
  | some c =>
    cases hcb : c.cb with
    | external st' => simp [State.inExternal, hc, hcb] at hx
    | _ => simp [State.setStage, h, hc, hcb]

/-- Who issues: a hardware agent, POLL, a handler's own step, or an external callback. -/
theorem issuer_cases (s : State) :
    (∃ a, s.agent = .hw a) ∨ s.agent = .poll ∨ (s.agent = .isr ∧ s.inExternal = false) ∨
    ∃ c st, s.agent = .isr ∧ s.isr = some c ∧ c.cb = .external st := by
  cases ha : s.agent with
  | hw a => exact .inl ⟨a, rfl⟩
  | poll => exact .inr (.inl rfl)
  | isr =>
    cases hx : s.inExternal with
    | false => exact .inr (.inr (.inl ⟨rfl, rfl⟩))
    | true =>
      obtain ⟨c, st, hc, hcb⟩ := inExternal_iff.mp hx
      exact .inr (.inr (.inr ⟨c, st, rfl, hc, hcb⟩))

theorem complete_eq (s : State) (r : Result) :
    s.complete r = { s with obs := .result s.agent r :: s.obs }.advance := rfl

@[simp] theorem setStage_isr_of_other (h : s.agent ≠ .isr) (st : RbStage) : (s.setStage st).isr = s.isr := by
  cases ha : s.agent with
  | hw a => rw [setStage_of_hw ha]
  | poll => rw [setStage_of_poll ha]
  | isr => exact absurd ha h

@[simp] theorem complete_isr_of_other (h : s.agent ≠ .isr) (r : Result) : (s.complete r).isr = s.isr :=
  advance_isr_of_poll (s := s.observe (.result s.agent r)) h

@[simp] theorem refuse_isr_of_other (h : s.agent ≠ .isr) : s.refuse.isr = s.isr :=
  advance_isr_of_poll (s := { s with refused := true }) h

end Sys2Proof.Machine

namespace Sys2Proof.Statements

open Sys2Proof.Machine

/-- Settles O14: each clause is the rule of its agent. -/
theorem contextGoesOn : Obligations.ContextGoesOn := by
  refine ⟨fun s h => advance_of_poll h, fun s a h => advance_of_hw h, fun s h hno => ?_,
    fun s c st h hc hx => advance_of_callback h hc hx, fun s st h => setStage_of_poll h st,
    fun s c st st' h hc hx => setStage_of_callback h hc hx st', complete_eq⟩
  have hx : s.inExternal ≠ true := fun he =>
    let ⟨c, st, hc, hcb⟩ := inExternal_iff.mp he
    hno c st hc hcb
  exact advance_of_handler h (by simpa using hx)

end Sys2Proof.Statements

/-! # Footprints: what each operation may write

For each operation, once, the registers it may write (10_state.md R22–R55: "Written only by …") and what it leaves of
the configuration, the marks, PRIMASK and the interrupt context. -/

namespace Sys2Proof.Machine

/-! ### Results of computations that may meet a fault -/

theorem map_ok {α β : Type} {x : Except Fault α} {f : α → β} {b : β} (h : x.map f = .ok b) :
    ∃ a, x = .ok a ∧ b = f a := by
  cases x with
  | ok a => exact ⟨a, rfl, by simpa [Except.map] using h.symm⟩
  | error e => cases h

theorem bind_ok {α β : Type} {x : Except Fault α} {f : α → Except Fault β} {b : β} (h : (x >>= f) = .ok b) :
    ∃ a, x = .ok a ∧ f a = .ok b := by
  cases x with
  | ok a => exact ⟨a, rfl, h⟩
  | error e => cases h

/-! ### The registers by unit -/

/-- The registers of 10_state.md unit by unit, without the contexts, the marks and the model's own fields. -/
structure Units where
  rings : List Ring
  cap : Capture
  steer : Steering
  rx : Exchange
  tx : Exchange
  detCnt : Half
  ft : FrameTimer
  realigners : List Realigner
  stats : Stats

/-- The units of a state. -/
def State.units (s : State) : Units :=
  { rings := s.rings, cap := s.cap, steer := s.steer, rx := s.rx, tx := s.tx, detCnt := s.detCnt, ft := s.ft
    realigners := s.realigners, stats := s.stats }

/-- One direction of the frame exchange. -/
def Units.xch (u : Units) : Dir → Exchange
  | .rx => u.rx
  | .tx => u.tx

/-- Replace one direction of the frame exchange. -/
def Units.setXch (u : Units) (d : Dir) (e : Exchange) : Units :=
  { u with rx := match d with | .rx => e | .tx => u.rx
           tx := match d with | .rx => u.tx | .tx => e }

theorem Units.setXch_same (u : Units) (d : Dir) (e : Exchange) : (u.setXch d e).xch d = e := by cases d <;> rfl

theorem Units.setXch_other (u : Units) {d d' : Dir} (h : d ≠ d') (e : Exchange) : (u.setXch d' e).xch d = u.xch d := by
  cases d with
  | rx =>
    cases d' with
    | rx => exact absurd rfl h
    | tx => rfl
  | tx =>
    cases d' with
    | rx => rfl
    | tx => exact absurd rfl h

theorem units_xch (s : State) (d : Dir) : s.units.xch d = s.xch d := by cases d <;> rfl

section UnitsOfUpdates

variable (s : State)

@[simp] theorem observe_units (o : Obs) : (s.observe o).units = s.units := rfl
@[simp] theorem setIsr_units (c : IsrCtx) : (s.setIsr c).units = s.units := rfl
@[simp] theorem leaveHandler_units (i : Instr) (r : Result) : (s.leaveHandler i r).units = s.units := rfl
@[simp] theorem mark_units (r : Fault) : (s.mark r).units = s.units := rfl
@[simp] theorem takeEvent_units : s.takeEvent.units = s.units := rfl
@[simp] theorem issue_units (a : Agent) (o : IssuedOp) : (s.issue a o).units = s.units := rfl
@[simp] theorem setStage_units (st : RbStage) : (s.setStage st).units = s.units := by simp [State.units]
@[simp] theorem advance_units : s.advance.units = s.units := by simp [State.units]
@[simp] theorem complete_units (r : Result) : (s.complete r).units = s.units := by simp [State.units]
@[simp] theorem refuse_units : s.refuse.units = s.units := by simp [State.units]
@[simp] theorem leaveExchange_units (c : IsrCtx) : (s.leaveExchange c).units = s.units := by simp [State.units]

end UnitsOfUpdates

/-! ### Footprints -/

/-- Direction `d` after its engine moved a word: `e'` where DMA_WORD may write, the receive engine also its slots, else `e`
(10_state.md R40, R43, R44). -/
def Exchange.engineWrites (d : Dir) (e e' : Exchange) : Exchange :=
  { e with
    slots := match d with | .rx => e'.slots | .tx => e.slots
    dmaCur := e'.dmaCur, dmaNxt := e'.dmaNxt, sr := e'.sr }

/-- A direction after a micro-step of its handler: `e'` where XCH_ISR may write, else `e` (10_state.md R41–R46). -/
def Exchange.handlerWrites (e e' : Exchange) : Exchange :=
  { e' with slots := e.slots, ie := e.ie }

/-- A direction after XCH_START: `e'` where it may write, else `e` (10_state.md R41–R45). -/
def Exchange.startWrites (e e' : Exchange) : Exchange :=
  { e' with slots := e.slots, errcnt := e.errcnt }

/-- The units after operation `i`: those of `v` where `i` may write, those of `u` everywhere else. -/
def footprint (u v : Units) : Instr → Units
  | .rbPut _ => { u with rings := v.rings }
  | .rbGet _ => { u with rings := v.rings }
  | .capCntTick => { u with cap := { u.cap with cnt := v.cap.cnt, sr := v.cap.sr } }
  | .capEdge kind =>
    { u with
      cap := { u.cap with
        latchR := match kind with | .rising => v.cap.latchR | .falling => u.cap.latchR
        latchF := match kind with | .rising => u.cap.latchF | .falling => v.cap.latchF
        sr := v.cap.sr } }
  | .capIsr =>
    { u with
      cap := { u.cap with sr := v.cap.sr, ovc := v.cap.ovc, tsR := v.cap.tsR, tsF := v.cap.tsF, fresh := v.cap.fresh } }
  | .capPoll => { u with cap := { u.cap with fresh := v.cap.fresh } }
  | .steerPulse => { u with steer := v.steer, stats := { u.stats with ppsLoss := v.stats.ppsLoss, calFail := v.stats.calFail } }
  | .xchStart => { u with rx := u.rx.startWrites v.rx, tx := u.tx.startWrites v.tx }
  | .dmaWord d => u.setXch d ((u.xch d).engineWrites d (v.xch d))
  | .xchIsr d => u.setXch d ((u.xch d).handlerWrites (v.xch d))
  | .alignStep =>
    { u with detCnt := v.detCnt, stats := { u.stats with desync := v.stats.desync, phaseBusy := v.stats.phaseBusy } }
  | .phaseRequest _ => { u with ft := { u.ft with pend := v.ft.pend, armed := v.ft.armed, matched := v.ft.matched } }
  | .ftTick => { u with ft := { u.ft with cnt := v.ft.cnt, matched := v.ft.matched } }
  | .ftIsr => { u with ft := { v.ft with cnt := u.ft.cnt } }
  | .raSetAlignment _ _ => { u with realigners := v.realigners }
  | .raRealignFrame _ => { u with realigners := v.realigners }
  | .statsSnapshot => u

theorem footprint_self (u : Units) (i : Instr) : footprint u u i = u := by
  cases i with
  | capEdge kind => cases kind <;> rfl
  | dmaWord d => cases d <;> rfl
  | xchIsr d => cases d <;> rfl
  | _ => rfl

/-- What every step leaves: the configuration, the marks already set (10_state.md R57), PRIMASK unless it becomes 0 (R54). -/
structure Frame (s t : State) : Prop where
  cfg : t.cfg = s.cfg
  faults : ∀ r, r ∈ s.faults → r ∈ t.faults
  refused : s.refused = true → t.refused = true
  primask : t.primask = s.primask ∨ t.primask = false

/-- What operation `i` may do to the units, and what it leaves beside them; only the interrupt context moves itself (R56). -/
structure Effect (i : Instr) (s t : State) : Prop where
  units : t.units = footprint s.units t.units i
  frame : Frame s t
  isr : s.agent ≠ .isr → t.isr = s.isr
  agent : t.agent = s.agent

variable {s t : State} {i : Instr}

theorem Frame.of_eq (hc : t.cfg = s.cfg := by simp) (hf : t.faults = s.faults := by simp)
    (hr : t.refused = s.refused := by simp) (hp : t.primask = s.primask := by simp) : Frame s t :=
  ⟨hc, fun _ h => hf ▸ h, fun h => hr.trans h, .inl hp⟩

theorem Frame.trans {u : State} (h : Frame s t) (h' : Frame t u) : Frame s u where
  cfg := h'.cfg.trans h.cfg
  faults r hr := h'.faults r (h.faults r hr)
  refused hr := h'.refused (h.refused hr)
  primask := h'.primask.elim (fun e => e ▸ h.primask) .inr

theorem frame_refuse (s : State) : Frame s s.refuse :=
  ⟨by simp, fun _ h => by simpa using h, fun _ => by simp, .inl (by simp)⟩

theorem frame_mark (s : State) (r : Fault) : Frame s (s.mark r) where
  cfg := rfl
  faults x hx := by
    rw [mark_faults]
    split
    · exact hx
    · exact List.mem_cons_of_mem _ hx
  refused h := h
  primask := .inl rfl

/-- An operation that leaves the units as they were. -/
theorem Effect.of_same (hu : t.units = s.units) (hf : Frame s t) (hi : s.agent ≠ .isr → t.isr = s.isr)
    (ha : t.agent = s.agent) : Effect i s t :=
  ⟨by rw [hu, footprint_self], hf, hi, ha⟩

theorem effect_self (s : State) : Effect i s s := .of_same rfl .of_eq (fun _ => rfl) rfl

/-- An operation goes on after its effect by an update that keeps the units. -/
theorem Effect.then {u : State} (h : Effect i s t) (hu : u.units = t.units) (hf : Frame t u)
    (hi : t.agent ≠ .isr → u.isr = t.isr) (ha : u.agent = t.agent) : Effect i s u where
  units := by rw [hu]; exact h.units
  frame := h.frame.trans hf
  isr hne := (hi (h.agent.symm ▸ hne)).trans (h.isr hne)
  agent := ha.trans h.agent

theorem Effect.observe (h : Effect i s t) {o : Obs} : Effect i s (t.observe o) :=
  h.then rfl .of_eq (fun _ => rfl) rfl

theorem Effect.complete (h : Effect i s t) {r : Result} : Effect i s (t.complete r) :=
  h.then (by simp) .of_eq (fun hne => complete_isr_of_other hne r) (by simp)

theorem Effect.setStage (h : Effect i s t) {st : RbStage} : Effect i s (t.setStage st) :=
  h.then (by simp) .of_eq (fun hne => setStage_isr_of_other hne st) (by simp)

theorem Effect.setIsr (h : Effect i s t) (ha : s.agent = .isr) {c : IsrCtx} : Effect i s (t.setIsr c) :=
  h.then rfl .of_eq (fun hne => absurd (h.agent.trans ha) hne) rfl

theorem Effect.leaveHandler (h : Effect i s t) (ha : s.agent = .isr) {j : Instr} {r : Result} :
    Effect i s (t.leaveHandler j r) :=
  h.then rfl .of_eq (fun hne => absurd (h.agent.trans ha) hne) rfl

theorem Effect.leaveExchange (h : Effect i s t) (ha : s.agent = .isr) {c : IsrCtx} : Effect i s (t.leaveExchange c) :=
  h.then (by simp) .of_eq (fun hne => absurd (h.agent.trans ha) hne) (by simp)

theorem effect_refuse (s : State) : Effect i s s.refuse :=
  .of_same (by simp) (frame_refuse s) (fun h => by simp [h]) (by simp)

theorem effect_mark (s : State) (r : Fault) : Effect i s (s.mark r) :=
  .of_same rfl (frame_mark s r) (fun _ => rfl) rfl

/-! ### Who issues -/

theorem settle_effect {e : Except Fault State} (h : settle s e = .next t) (he : e = .ok t → Effect i s t) : Effect i s t := by
  rcases settle_cases h with h | ⟨r, -, rfl⟩
  · exact he h
  · exact effect_mark s r

theorem byAgent_effect {a : Agent} {f : State → Except Fault State} (h : byAgent a f s = .next t)
    (hf : s.agent = a → f s = .ok t → Effect i s t) : Effect i s t := by
  rcases byAgent_cases h with ⟨ha, h⟩ | ⟨-, r, -, rfl⟩ | ⟨-, rfl⟩
  · exact hf ha h
  · exact effect_mark s r
  · exact effect_refuse s

theorem bySide_effect {side : Option Ctx} {f : State → Except Fault State} (h : bySide side f s = .next t)
    (hf : f s = .ok t → Effect i s t) : Effect i s t := by
  rcases bySide_cases h with ⟨-, h⟩ | ⟨-, r, -, rfl⟩ | ⟨-, rfl⟩
  · exact hf h
  · exact effect_mark s r
  · exact effect_refuse s

theorem byHandler_effect {hd : Handler} {f : IsrCtx → State → Except Fault State} (h : byHandler hd f s = .next t)
    (hf : ∀ c, s.agent = .isr → f c s = .ok t → Effect i s t) : Effect i s t := by
  rcases byHandler_cases h with ⟨c, ha, -, -, -, h | ⟨r, -, rfl⟩⟩ | rfl
  · exact hf c ha h
  · exact effect_mark s r
  · exact effect_refuse s

theorem critical_effect {f : State → Except Fault State} (h : critical f s = .ok t)
    (hf : ∀ u, f { s with primask := true } = .ok u → Effect i { s with primask := true } u) : Effect i s t := by
  obtain ⟨u, hu, rfl⟩ := critical_ok h
  obtain ⟨hunits, hframe, hisr, hagent⟩ := hf u hu
  exact ⟨hunits, ⟨hframe.cfg, hframe.faults, hframe.refused, .inr rfl⟩, hisr, hagent⟩

/-! ### LockFreeRingBuffer -/

theorem setRing_units (s : State) (j : Nat) (r : Ring) :
    (s.setRing j r).units = { s.units with rings := (s.setRing j r).units.rings } := rfl

theorem setRing_effect {n : BitVec 8} (hi : i = .rbPut n ∨ i = .rbGet n) (j : Nat) (r : Ring) : Effect i s (s.setRing j r) := by
  rcases hi with rfl | rfl <;> exact ⟨setRing_units s j r, .of_eq, fun _ => rfl, rfl⟩

theorem putStep_effect {n : BitVec 8} {j : Nat} (h : putStep j s = .ok t) : Effect (.rbPut n) s t := by
  have hbegin : putBegin j s = .ok t → Effect (.rbPut n) s t := by
    intro h
    obtain ⟨r, -, h⟩ := unitAt_bind_ok h
    dsimp only at h
    split at h <;> cases h
    · exact (effect_self s).complete
    · exact (effect_self s).setStage
  unfold putStep at h
  split at h
  · obtain ⟨r, -, h⟩ := unitAt_bind_ok h
    obtain ⟨r', -, h⟩ := bind_ok h
    cases h
    exact (setRing_effect (.inl rfl) _ _).setStage
  · obtain ⟨r, -, h⟩ := unitAt_bind_ok h
    cases h
    exact (setRing_effect (.inl rfl) _ _).complete
  all_goals exact hbegin h

theorem getStep_effect {n : BitVec 8} {j : Nat} (h : getStep j s = .ok t) : Effect (.rbGet n) s t := by
  have hbegin : getBegin j s = .ok t → Effect (.rbGet n) s t := by
    intro h
    obtain ⟨r, -, h⟩ := unitAt_bind_ok h
    split at h <;> cases h
    · exact (effect_self s).complete
    · exact (effect_self s).setStage
  unfold getStep at h
  split at h
  · obtain ⟨r, -, h⟩ := unitAt_bind_ok h
    obtain ⟨v, -, h⟩ := bind_ok h
    cases h
    exact (effect_self s).setStage
  · obtain ⟨r, -, h⟩ := unitAt_bind_ok h
    cases h
    exact (setRing_effect (.inr rfl) _ _).complete
  all_goals exact hbegin h

theorem execRbPut_effect {n : BitVec 8} (h : execRbPut n s = .next t) : Effect (.rbPut n) s t := by
  unfold execRbPut at h
  split at h
  · exact bySide_effect h putStep_effect
  · cases h; exact effect_refuse s

theorem execRbGet_effect {n : BitVec 8} (h : execRbGet n s = .next t) : Effect (.rbGet n) s t := by
  unfold execRbGet at h
  split at h
  · exact bySide_effect h getStep_effect
  · cases h; exact effect_refuse s

/-! ### TimestampCapture -/

theorem execCapCntTick_effect (h : execCapCntTick s = .next t) : Effect .capCntTick s t := by
  refine byAgent_effect h fun _ h => ?_
  cases h
  exact ⟨rfl, .of_eq, fun _ => rfl, rfl⟩

theorem execCapEdge_effect {kind : EdgeKind} (h : execCapEdge kind s = .next t) : Effect (.capEdge kind) s t := by
  refine byAgent_effect h fun _ h => ?_
  cases h
  cases kind <;> exact ⟨rfl, .of_eq, fun _ => rfl, rfl⟩

/-- CAP_ISR's writes: the status at μ1, the timestamps, the epoch and the mailbox flags at μ5. -/
theorem capIsrStep_effect {c : IsrCtx} (ha : s.agent = .isr) (h : capIsrStep c s = .ok t) : Effect .capIsr s t := by
  unfold capIsrStep at h
  split at h
  · cases h
    refine Effect.setIsr ?_ ha
    exact ⟨rfl, .of_eq, fun _ => rfl, rfl⟩
  · cases h
    exact (effect_self s).setIsr ha
  · split at h
    · obtain ⟨v, -, rfl⟩ := map_ok h
      exact (effect_self s).setIsr ha
    · cases h
      exact (effect_self s).setIsr ha
  · split at h
    · obtain ⟨v, -, rfl⟩ := map_ok h
      exact (effect_self s).setIsr ha
    · cases h
      exact (effect_self s).setIsr ha
  · cases h
    refine Effect.leaveHandler ?_ ha
    exact ⟨rfl, .of_eq, fun _ => rfl, rfl⟩
  · cases h
    exact effect_refuse s

theorem execCapIsr_effect (h : execCapIsr s = .next t) : Effect .capIsr s t :=
  byHandler_effect h fun _ ha h => capIsrStep_effect ha h

theorem capPollStep_effect (h : capPollStep s = .ok t) : Effect .capPoll s t := by
  obtain ⟨rising, -, h⟩ := bind_ok h
  obtain ⟨falling, -, h⟩ := bind_ok h
  cases h
  refine Effect.complete ?_
  exact ⟨rfl, .of_eq, fun _ => rfl, rfl⟩

theorem execCapPoll_effect (h : execCapPoll s = .next t) : Effect .capPoll s t :=
  byAgent_effect h fun _ h => critical_effect h fun _ h => capPollStep_effect h

/-! ### OscillatorSteering -/

/-- The statistics a pulse may count: the pulses lost and the calibrations failed (10_state.md R55). -/
def Servo.CountsOnly (v v' : Servo) : Prop :=
  v'.stats = { v.stats with ppsLoss := v'.stats.ppsLoss, calFail := v'.stats.calFail }

theorem countsOnly_of_eq {v v' : Servo} (h : v'.stats = v.stats) : v.CountsOnly v' := by
  unfold Servo.CountsOnly; rw [h]

theorem initPulse_stats (p : Params) (ts : Word) (v : Servo) : (initPulse p ts v).stats = v.stats := by
  unfold initPulse; dsimp only; (repeat' split) <;> rfl

theorem correct_stats {p : Params} {offset : Int} {v v' : Servo} (h : correct p offset v = .ok v') :
    v'.stats = v.stats := by
  obtain ⟨slope, -, h⟩ := bind_ok h
  obtain ⟨center, -, h⟩ := bind_ok h
  cases h
  rfl

theorem freqPulse_stats {p : Params} {ts : Word} {offset : Int} {v v' : Servo} (h : freqPulse p ts offset v = .ok v') :
    v'.stats = v.stats := by
  obtain ⟨w, hw, h⟩ := bind_ok h
  have hs := correct_stats hw
  cases h
  split <;> exact hs

theorem phasePulse_stats {p : Params} {offset : Int} {v v' : Servo} (h : phasePulse p offset v = .ok v') :
    v'.stats = v.stats := by
  obtain ⟨w, hw, h⟩ := bind_ok h
  have hs := correct_stats hw
  cases h
  split <;> exact hs

theorem finishCalibration_counts {p : Params} {v v' : Servo} {r : Result} (h : finishCalibration p v = .ok (v', r)) :
    v.CountsOnly v' := by
  obtain ⟨mn, -, h⟩ := bind_ok h
  obtain ⟨mx, -, h⟩ := bind_ok h
  split at h <;> cases h <;> rfl

theorem calMinPulse_stats {p : Params} {ts : Word} {offset : Int} {v v' : Servo} {r : Result}
    (h : calMinPulse p ts offset v = .ok (v', r)) : v'.stats = v.stats := by
  obtain ⟨acc, -, h⟩ := bind_ok h
  cases h
  split <;> rfl

theorem calMaxPulse_counts {p : Params} {ts : Word} {offset : Int} {v v' : Servo} {r : Result}
    (h : calMaxPulse p ts offset v = .ok (v', r)) : v.CountsOnly v' := by
  obtain ⟨acc, -, h⟩ := bind_ok h
  dsimp only at h
  split at h
  · have hc := finishCalibration_counts h
    exact hc
  · cases h
    rfl

theorem acceptedPulse_counts {p : Params} {ts : Word} {v v' : Servo} {r : Result}
    (h : acceptedPulse p ts v = .ok (v', r)) : v.CountsOnly v' := by
  unfold acceptedPulse at h
  dsimp only at h
  split at h
  · cases h
    exact countsOnly_of_eq (initPulse_stats p ts v)
  · exact countsOnly_of_eq (calMinPulse_stats h)
  · exact calMaxPulse_counts h
  · obtain ⟨w, hw, h⟩ := map_ok h
    cases h
    exact countsOnly_of_eq (freqPulse_stats hw)
  · obtain ⟨w, hw, h⟩ := map_ok h
    cases h
    exact countsOnly_of_eq (phasePulse_stats hw)
  · cases h

theorem steerPulse_counts {p : Params} {ts tick : Word} {v v' : Servo} {r : Result}
    (h : steerPulse p ts tick v = .ok (v', r)) : v.CountsOnly v' := by
  unfold steerPulse at h
  dsimp only at h
  split at h
  · have hc := acceptedPulse_counts h
    exact hc
  · cases h
    rfl

theorem steerStep_effect (h : steerStep s = .ok t) : Effect .steerPulse s t := by
  obtain ⟨⟨v, r⟩, hv, rfl⟩ := map_ok h
  have hcounts : v.stats = { s.stats with ppsLoss := v.stats.ppsLoss, calFail := v.stats.calFail } := steerPulse_counts hv
  have hwritten : Effect .steerPulse s { s with steer := v.st, stats := v.stats } :=
    ⟨congrArg (fun st => ({ s.units with steer := v.st, stats := st } : Units)) hcounts, .of_eq, fun _ => rfl, rfl⟩
  unfold State.endPulse
  dsimp only
  split
  · exact hwritten.complete
  · refine Effect.observe (hwritten.then ?_ .of_eq ?_ ?_)
    all_goals intros; rfl

theorem execSteerPulse_effect (h : execSteerPulse s = .next t) : Effect .steerPulse s t :=
  byAgent_effect h fun _ h => steerStep_effect h

/-! ### SerialFrameExchange -/

theorem xchStartStep_effect (h : xchStartStep s = .ok t) : Effect .xchStart s t := by
  unfold xchStartStep at h
  split at h <;> cases h
  · exact effect_refuse s
  · refine Effect.complete ?_
    exact ⟨rfl, .of_eq, fun _ => rfl, rfl⟩

theorem execXchStart_effect (h : execXchStart s = .next t) : Effect .xchStart s t :=
  byAgent_effect h fun _ h => xchStartStep_effect h

/-- A loaded engine differs from the idle one in its descriptors alone. -/
theorem load_cases {e e' : Exchange} (h : e.load = some e') : e' = { e with dmaCur := e'.dmaCur, dmaNxt := e'.dmaNxt } := by
  unfold Exchange.load at h
  split at h
  · cases h; rfl
  · split at h <;> cases h
    rfl

/-- A moved word writes nothing but the descriptors and the status. -/
theorem moved_eq (e : Exchange) :
    e.moved = { e with dmaCur := e.moved.dmaCur, dmaNxt := e.moved.dmaNxt, sr := e.moved.sr } := by
  unfold Exchange.moved
  dsimp only
  (repeat' split) <;> rfl

/-- A word moved by a loaded engine, over slots `m`: the writes of an engine. -/
theorem moved_engineWrites {d : Dir} {e e' : Exchange} {m : Memory} (h : e.load = some e') (hm : d = .tx → m = e.slots) :
    ({ e' with slots := m } : Exchange).moved = e.engineWrites d ({ e' with slots := m } : Exchange).moved := by
  rw [moved_eq, load_cases h]
  cases d with
  | rx => rfl
  | tx => rw [hm rfl]; rfl

theorem Effect.of_engine {d : Dir} {e : Exchange} (he : e = (s.xch d).engineWrites d e) :
    Effect (.dmaWord d) s (s.setXch d e) := by
  cases d with
  | rx => exact ⟨congrArg (fun x => ({ s.units with rx := x } : Units)) he, .of_eq, fun _ => rfl, rfl⟩
  | tx => exact ⟨congrArg (fun x => ({ s.units with tx := x } : Units)) he, .of_eq, fun _ => rfl, rfl⟩

theorem dmaStep_effect {d : Dir} (h : dmaStep d s = .ok t) : Effect (.dmaWord d) s t := by
  unfold dmaStep at h
  split at h
  · rename_i e he
    cases d with
    | rx =>
      obtain ⟨m, -, rfl⟩ := map_ok h
      exact .of_engine (moved_engineWrites he nofun)
    | tx =>
      obtain ⟨v, -, rfl⟩ := map_ok h
      have hslots : e.slots = s.tx.slots := by rw [load_cases he]; rfl
      exact (Effect.of_engine (d := .tx) (moved_engineWrites (m := e.slots) he fun _ => hslots)).observe
  · cases h
    cases d with
    | rx => exact effect_self s
    | tx =>
      refine Effect.observe (t := { s with freeIdx := s.freeIdx + 1 }) ?_
      exact .of_same rfl .of_eq (fun _ => rfl) rfl

theorem execDmaWord_effect {d : Dir} (h : execDmaWord d s = .next t) : Effect (.dmaWord d) s t :=
  byAgent_effect h fun _ h => dmaStep_effect h

/-- A micro-step of XCH_ISR may replace its direction but for the slots and the enable. -/
theorem setXch_effect {d : Dir} {e : Exchange} (he : e = (s.xch d).handlerWrites e) : Effect (.xchIsr d) s (s.setXch d e) := by
  cases d with
  | rx => exact ⟨congrArg (fun x => ({ s.units with rx := x } : Units)) he, .of_eq, fun _ => rfl, rfl⟩
  | tx => exact ⟨congrArg (fun x => ({ s.units with tx := x } : Units)) he, .of_eq, fun _ => rfl, rfl⟩

theorem xchIsrStep_effect {d : Dir} {c : IsrCtx} (ha : s.agent = .isr) (h : xchIsrStep d c s = .ok t) :
    Effect (.xchIsr d) s t := by
  have hstay : ∀ c', Effect (.xchIsr d) s (s.setIsr c') := fun _ => (effect_self s).setIsr ha
  have hwrite : ∀ e, e = (s.xch d).handlerWrites e → ∀ c', Effect (.xchIsr d) s ((s.setXch d e).setIsr c') :=
    fun _ he _ => (setXch_effect he).setIsr ha
  unfold xchIsrStep at h
  split at h <;> cases h
  · exact hwrite _ rfl _
  · unfold xchPublish
    dsimp only
    split
    · exact hwrite _ rfl _
    · exact hstay _
  · unfold xchArm
    dsimp only
    split
    · exact hwrite _ rfl _
    · exact hstay _
  · unfold xchRestartCur
    dsimp only
    split
    · exact hwrite _ rfl _
    · exact hstay _
  · unfold xchRestartNxt
    dsimp only
    split
    · exact hwrite _ rfl _
    · exact hstay _
  · unfold xchCallback
    split
    · exact hstay _
    · exact (effect_self s).leaveExchange ha
  · exact effect_refuse s

theorem execXchIsr_effect {d : Dir} (h : execXchIsr d s = .next t) : Effect (.xchIsr d) s t :=
  byHandler_effect h fun _ ha h => xchIsrStep_effect ha h

/-! ### FrameAlignmentDetector -/

theorem alignReload_effect (ha : s.agent = .isr) (h : Effect .alignStep s t) (c : IsrCtx) (r : Result) :
    Effect .alignStep s (alignReload c r t) := by
  have hreload : Effect .alignStep s { t with detCnt := t.cfg.alignCheckInterval } :=
    ⟨congrArg (fun u : Units => { u with detCnt := t.cfg.alignCheckInterval }) h.units, h.frame.trans .of_eq, h.isr, h.agent⟩
  exact (hreload.observe).leaveExchange ha

theorem alignJudge_effect (ha : s.agent = .isr) (c : IsrCtx) (slot : Nat) (w0 w8 : Word) :
    Effect .alignStep s (alignJudge c slot w0 w8 s) := by
  unfold alignJudge
  split
  · split
    · exact (effect_self s).setIsr ha
    · exact alignReload_effect ha (effect_self s) c _
  · refine Effect.setIsr ?_ ha
    exact ⟨rfl, .of_eq, fun _ => rfl, rfl⟩

theorem alignStage_effect {c : IsrCtx} (ha : s.agent = .isr) (h : alignStage c s = .ok t) : Effect .alignStep s t := by
  unfold alignStage at h
  split at h
  · cases h
    unfold alignCount
    dsimp only
    split
    · refine Effect.leaveExchange (Effect.observe ?_) ha
      exact ⟨rfl, .of_eq, fun _ => rfl, rfl⟩
    · refine Effect.setIsr ?_ ha
      exact ⟨rfl, .of_eq, fun _ => rfl, rfl⟩
  · obtain ⟨w0, -, rfl⟩ := map_ok h
    exact (effect_self s).setIsr ha
  · obtain ⟨w8, -, rfl⟩ := map_ok h
    exact alignJudge_effect ha c _ _ w8
  · cases h
    refine alignReload_effect ha ?_ c _
    split
    · exact ⟨rfl, .of_eq, fun _ => rfl, rfl⟩
    · exact effect_self s
  all_goals
    cases h
    exact effect_refuse s

theorem execAlignStep_effect (h : execAlignStep s = .next t) : Effect .alignStep s t := by
  unfold execAlignStep at h
  split at h
  · rename_i ha _
    split at h
    · exact settle_effect h (alignStage_effect ha)
    · cases h; exact effect_refuse s
  · cases h; exact effect_refuse s

/-! ### FrameClockPhaseAdjuster and frame timer -/

theorem phaseStep_effect {dir : Nudge} {deliver : State → Result → State}
    (hd : ∀ t r, Effect (.phaseRequest dir) s t → Effect (.phaseRequest dir) s (deliver t r))
    (h : phaseStep dir deliver s = .ok t) : Effect (.phaseRequest dir) s t := by
  obtain ⟨pend, -, h⟩ := bind_ok h
  split at h <;> cases h
  · exact hd _ _ (effect_self s)
  · exact hd _ _ ⟨rfl, .of_eq, fun _ => rfl, rfl⟩

theorem Effect.answerAlign (h : Effect i s t) (ha : s.agent = .isr) {r : Result} : Effect i s (t.answerAlign r) := by
  unfold State.answerAlign
  split
  · exact h.observe.setIsr ha
  · exact h

theorem execPhaseRequest_effect {dir : Nudge} (h : execPhaseRequest dir s = .next t) : Effect (.phaseRequest dir) s t := by
  unfold execPhaseRequest at h
  split at h
  · exact settle_effect h fun h => critical_effect h fun _ h => phaseStep_effect (fun _ _ h => h.complete) h
  · rename_i ha
    split at h
    · exact settle_effect h fun h => phaseStep_effect (fun _ _ h => h.answerAlign ha) h
    · cases h; exact effect_refuse s
  · cases h; exact effect_refuse s

theorem tick_eq (f : FrameTimer) : f.tick = { f with cnt := f.tick.cnt, matched := f.tick.matched } := by
  unfold FrameTimer.tick
  split <;> rfl

theorem execFtTick_effect (h : execFtTick s = .next t) : Effect .ftTick s t := by
  have hticked : Effect .ftTick s { s with ft := s.ft.tick } :=
    ⟨congrArg (fun f => ({ s.units with ft := f } : Units)) (tick_eq s.ft), .of_eq, fun _ => rfl, rfl⟩
  refine byAgent_effect h fun _ h => ?_
  unfold ftTickStep at h
  split at h <;> cases h
  · exact hticked.observe
  · exact hticked

theorem ftIsrStep_effect {c : IsrCtx} (ha : s.agent = .isr) (h : ftIsrStep c s = .ok t) : Effect .ftIsr s t := by
  unfold ftIsrStep at h
  split at h
  · cases h
    refine Effect.setIsr ?_ ha
    exact ⟨rfl, .of_eq, fun _ => rfl, rfl⟩
  · obtain ⟨pend, -, rfl⟩ := map_ok h
    refine Effect.leaveHandler ?_ ha
    exact ⟨rfl, .of_eq, fun _ => rfl, rfl⟩
  · cases h
    exact effect_refuse s

theorem execFtIsr_effect (h : execFtIsr s = .next t) : Effect .ftIsr s t :=
  byHandler_effect h fun _ ha h => ftIsrStep_effect ha h

/-! ### BitRealigner -/

theorem execRaSetAlignment_effect {n : BitVec 8} {bits : BitVec 16} (h : execRaSetAlignment n bits s = .next t) :
    Effect (.raSetAlignment n bits) s t := by
  unfold execRaSetAlignment at h
  split at h
  · refine bySide_effect h fun h => ?_
    obtain ⟨r, -, h⟩ := unitAt_bind_ok h
    cases h
    refine Effect.complete ?_
    exact ⟨rfl, .of_eq, fun _ => rfl, rfl⟩
  · cases h; exact effect_refuse s

theorem execRaRealignFrame_effect {n : BitVec 8} (h : execRaRealignFrame n s = .next t) :
    Effect (.raRealignFrame n) s t := by
  unfold execRaRealignFrame at h
  split at h
  · refine bySide_effect h fun h => ?_
    obtain ⟨r, -, h⟩ := unitAt_bind_ok h
    split at h <;> cases h
    refine Effect.complete ?_
    exact ⟨rfl, .of_eq, fun _ => rfl, rfl⟩
  · cases h; exact effect_refuse s

/-! ### Every operation -/

theorem execStatsSnapshot_effect (h : execStatsSnapshot s = .next t) : Effect .statsSnapshot s t := by
  refine byAgent_effect h fun _ h => critical_effect h fun _ h => ?_
  cases h
  exact (effect_self _).complete

/-- Every operation writes within its footprint. -/
theorem exec_effect (h : exec i s = .next t) : Effect i s t := by
  cases i with
  | rbPut n => exact execRbPut_effect h
  | rbGet n => exact execRbGet_effect h
  | capCntTick => exact execCapCntTick_effect h
  | capEdge kind => exact execCapEdge_effect h
  | capIsr => exact execCapIsr_effect h
  | capPoll => exact execCapPoll_effect h
  | steerPulse => exact execSteerPulse_effect h
  | xchStart => exact execXchStart_effect h
  | dmaWord d => exact execDmaWord_effect h
  | xchIsr d => exact execXchIsr_effect h
  | alignStep => exact execAlignStep_effect h
  | phaseRequest dir => exact execPhaseRequest_effect h
  | ftTick => exact execFtTick_effect h
  | ftIsr => exact execFtIsr_effect h
  | raSetAlignment n bits => exact execRaSetAlignment_effect h
  | raRealignFrame n => exact execRaRealignFrame_effect h
  | statsSnapshot => exact execStatsSnapshot_effect h

end Sys2Proof.Machine

/-! # Steps: what a step of the machine may write

One step of the machine: an operation presented by its agent, or a step without an operation word; and over every step,
which registers change where (10_state.md R22–R57). -/

namespace Sys2Proof.Machine

variable {s t : State} {e : Event}

/-! ### What a step is -/

/-- The step of an event executes the word its agent presents, refuses one that spells no operation, or has no word. -/
theorem stepEvent_cases (h : stepEvent e s = .next t) :
    (∃ a o i, s.currentOp e = some (a, o) ∧ decode o.word = .ok i ∧ exec i (s.issue a o) = .next t) ∨
    (∃ a o, s.currentOp e = some (a, o) ∧ t = (s.issue a o).refuse) ∨
    (s.currentOp e = none ∧ settle s (s.otherStep e) = .next t) := by
  unfold stepEvent at h
  cases hop : s.currentOp e with
  | none => rw [hop] at h; exact .inr (.inr ⟨rfl, h⟩)
  | some ao =>
    obtain ⟨a, o⟩ := ao
    rw [hop] at h
    simp only [runWord] at h
    split at h
    · rename_i i hi
      exact .inl ⟨a, o, i, rfl, hi, h⟩
    · cases h
      exact .inr (.inl ⟨a, o, rfl, rfl⟩)

/-- A step is the step of the next event, or records BadConfig. -/
theorem step_cases (h : step s = .next t) :
    s.faults = [] ∧ (stepEvent s.nextEvent s.takeEvent = .next t ∨ t = s.mark .badConfig) := by
  unfold step at h
  split at h
  · cases h
  · rename_i hf
    refine ⟨hf, ?_⟩
    split at h
    · exact .inl h
    · cases h; exact .inr rfl

/-- Which word an agent presents does not hang on the schedule. -/
theorem currentOp_takeEvent (s : State) (e : Event) : s.takeEvent.currentOp e = s.currentOp e := by
  cases e <;> rfl

/-! ### Steps without an operation word -/

theorem frame_issue (s : State) (a : Agent) (o : IssuedOp) : Frame s (s.issue a o) := .of_eq

theorem frame_agent (s : State) (a : Agent) : Frame s { s with agent := a } := .of_eq

theorem frame_takeEvent (s : State) : Frame s s.takeEvent := .of_eq

/-- POLL's step without a word delivers a withheld result, boots, or passes. -/
theorem pollOther_cases (s : State) :
    (∃ h, s.pollOther = s.endHold h) ∨ (s.poll.booted = false ∧ s.pollOther = s.boot) ∨ s.pollOther = s := by
  unfold State.pollOther
  split
  · rename_i h _ _
    split
    · exact .inl ⟨h, rfl⟩
    · exact .inr (.inr rfl)
  · split
    · exact .inr (.inr rfl)
    · rename_i hb
      exact .inr (.inl ⟨by simpa using hb, rfl⟩)
  · exact .inr (.inr rfl)

/-- An ISR step without a word belongs to an external callback at an item that has none. -/
theorem isrOp_none {c : IsrCtx} (h : s.isrOp c = none) : ∃ st, c.cb = .external st := by
  cases hcb : c.cb with
  | external st => exact ⟨st, rfl⟩
  | _ => simp [State.isrOp, hcb] at h

/-- The interrupt context's step without a word: the transmit callback stores a word, the item is refused, the callback
returns, or the event passes. -/
theorem isrOther_cases (h : s.isrOther = .ok t) :
    (∃ c w v m, s.isr = some c ∧ c.handler = .xchIsr .tx ∧ s.nextCbItem = .fill w v ∧
      Memory.writeWord s.cfg.nTx s.tx.slots c.done.toNat w.toNat v = .ok m ∧
      t = State.advance { s with agent := .isr, tx := { s.tx with slots := m } }) ∨
    t = State.refuse { s with agent := .isr } ∨
    (∃ c, s.isr = some c ∧ t = State.endCallback { s with agent := .isr } c) ∨ t = s := by
  unfold State.isrOther at h
  split at h
  · cases h; exact .inr (.inr (.inr rfl))
  · rename_i c hc
    split at h
    · rename_i w v hitem
      unfold State.fillSlot at h
      split at h
      · rename_i hh
        obtain ⟨m, hm, rfl⟩ := map_ok h
        exact .inl ⟨c, w, v, m, hc, hh, hitem, hm, rfl⟩
      · cases h; exact .inr (.inl rfl)
    · cases h; exact .inr (.inr (.inl ⟨c, hc, rfl⟩))
    · cases h; exact .inr (.inr (.inr rfl))

/-! ### Who writes -/

/-- What moves the registers in one step. -/
inductive Writer where
  /-- operation `i` -/
  | op (i : Instr)
  /-- the boot step (70_reset_and_hazards.md R280) -/
  | boot
  /-- the transmit callback's store into the slot just transmitted (43_frame_exchange.md R177) -/
  | fill
  /-- a step that writes no unit -/
  | other

/-- The units after a step of writer `w`: those of `v` where it may write, those of `u` everywhere else. -/
def Writer.footprint (u v : Units) : Writer → Units
  | .op i => Machine.footprint u v i
  | .boot => { u with cap := { u.cap with ie := v.cap.ie }, ft := { u.ft with top := v.ft.top } }
  | .fill => { u with tx := { u.tx with slots := v.tx.slots } }
  | .other => u

/-- The step without a word on event `e` from `s` to `t` is one of writer `w`. -/
def Writer.ActsOn (e : Event) (s t : State) : Writer → Prop
  | .op _ => False
  | .boot => s.poll.booted = false ∧ t.poll.booted = true
  | .fill => e = .isr ∧ ∃ c w v, s.isr = some c ∧ c.handler = .xchIsr .tx ∧ c.cb ≠ .none ∧ s.nextCbItem = .fill w v
  | .other => True

/-- A step without an operation word, in full: its writer, its frame, and whether it moves the interrupt context. -/
structure OtherEffect (e : Event) (s t : State) : Prop where
  units : ∃ w : Writer, w.ActsOn e s t ∧ t.units = w.footprint s.units t.units
  frame : Frame s t
  isr : t.isr ≠ s.isr → e = .isr ∨ ∃ h, e = .dispatch h

theorem OtherEffect.of_same (hu : t.units = s.units) (hf : Frame s t)
    (hi : t.isr ≠ s.isr → e = .isr ∨ ∃ h, e = .dispatch h) : OtherEffect e s t :=
  ⟨⟨.other, trivial, hu⟩, hf, hi⟩

theorem otherEffect_self (e : Event) (s : State) : OtherEffect e s s := .of_same rfl .of_eq (absurd rfl)

theorem pollOther_effect (s : State) : OtherEffect .poll s s.pollOther := by
  rcases pollOther_cases s with ⟨h, ht⟩ | ⟨hb, ht⟩ | ht <;> rw [ht]
  · have hkept : (s.endHold h).isr = s.isr :=
      complete_isr_of_other (s := { s with agent := .poll, poll := { s.poll with hold := none } }) nofun h.result
    have hframe : Frame s (s.endHold h) :=
      .of_eq (complete_cfg _ _) (complete_faults _ _) (complete_refused _ _) (complete_primask _ _)
    exact .of_same (complete_units _ _) hframe (absurd hkept)
  · exact ⟨⟨.boot, ⟨hb, rfl⟩, rfl⟩, .of_eq rfl rfl rfl rfl, absurd rfl⟩
  · exact otherEffect_self _ s

theorem isrOther_effect (hn : s.currentOp .isr = none) (h : s.isrOther = .ok t) : OtherEffect .isr s t := by
  have hisr : t.isr ≠ s.isr → Event.isr = .isr ∨ ∃ h, Event.isr = .dispatch h := fun _ => .inl rfl
  rcases isrOther_cases h with ⟨c, w, v, m, hc, hh, hitem, -, rfl⟩ | rfl | ⟨c, -, rfl⟩ | rfl
  · obtain ⟨st, hcb⟩ := isrOp_none (s := s) (c := c) (by simpa [State.currentOp, hc] using hn)
    refine ⟨⟨.fill, ⟨rfl, c, w, v, hc, hh, by simp [hcb], hitem⟩, ?_⟩, .of_eq, hisr⟩
    rw [advance_units]
    rfl
  · exact .of_same (refuse_units _) ((frame_agent s .isr).trans (frame_refuse _)) hisr
  · refine .of_same ?_ (.of_eq ?_ ?_ ?_ ?_) hisr <;> simp [State.endCallback]
    rfl
  · exact otherEffect_self _ _

theorem otherStep_effect (hn : s.currentOp e = none) (h : s.otherStep e = .ok t) : OtherEffect e s t := by
  cases e with
  | hw a o => cases h; exact otherEffect_self _ s
  | poll => cases h; exact pollOther_effect s
  | isr => exact isrOther_effect hn h
  | dispatch hd =>
    cases h
    unfold State.dispatch
    split
    · exact .of_same rfl (.of_eq rfl rfl rfl rfl) fun _ => .inr ⟨hd, rfl⟩
    · exact otherEffect_self _ s
  | dacReady =>
    cases h
    unfold State.dacReady
    split
    · exact .of_same rfl .of_eq (absurd rfl)
    · exact otherEffect_self _ s

/-! ### What every step leaves -/

theorem stepEvent_frame (h : stepEvent e s = .next t) : Frame s t := by
  rcases stepEvent_cases h with ⟨a, o, i, -, -, h⟩ | ⟨a, o, -, rfl⟩ | ⟨hn, h⟩
  · exact (frame_issue s a o).trans (exec_effect h).frame
  · exact (frame_issue s a o).trans (frame_refuse _)
  · rcases settle_cases h with h | ⟨r, -, rfl⟩
    · exact (otherStep_effect hn h).frame
    · exact frame_mark s r

theorem step_frame (h : step s = .next t) : Frame s t := by
  rcases (step_cases h).2 with h | rfl
  · exact (frame_takeEvent s).trans (stepEvent_frame h)
  · exact frame_mark s _

/-- Only the interrupt context is presented with words of its own. -/
theorem currentOp_isr {o : IssuedOp} (h : s.currentOp e = some (.isr, o)) : e = .isr := by
  cases e <;> simp [State.currentOp] at h ⊢

/-- 10_state.md R56: the interrupt context is moved by its own steps and by dispatch. -/
theorem stepEvent_isr (h : stepEvent e s = .next t) (hne : t.isr ≠ s.isr) : e = .isr ∨ ∃ h, e = .dispatch h := by
  rcases stepEvent_cases h with ⟨a, o, i, hop, -, h⟩ | ⟨a, o, hop, rfl⟩ | ⟨hn, h⟩
  · by_cases ha : a = .isr
    · exact .inl (currentOp_isr (ha ▸ hop))
    · exact absurd ((exec_effect h).isr ha) hne
  · by_cases ha : a = .isr
    · exact .inl (currentOp_isr (ha ▸ hop))
    · exact absurd (refuse_isr_of_other (s := s.issue a o) ha) hne
  · rcases settle_cases h with h | ⟨r, -, rfl⟩
    · exact (otherStep_effect hn h).isr hne
    · exact absurd rfl hne

theorem step_isr (h : step s = .next t) (hne : t.isr ≠ s.isr) : s.nextEvent = .isr ∨ ∃ h, s.nextEvent = .dispatch h := by
  rcases (step_cases h).2 with h | rfl
  · exact stepEvent_isr h hne
  · exact absurd rfl hne

end Sys2Proof.Machine

namespace Sys2Proof.Statements

open Sys2Proof.Machine

variable {s t : State}

/-- Settles O19: the marks are part of the frame of every operation and every step. -/
theorem marksNeverCleared : Obligations.MarksNeverCleared :=
  ⟨fun _ _ _ h => ⟨(exec_effect h).frame.faults, (exec_effect h).frame.refused⟩,
    fun _ _ _ h => ⟨(stepEvent_frame h).faults, (stepEvent_frame h).refused⟩,
    fun _ _ h => (step_frame h).refused, fun _ => ⟨rfl, rfl⟩⟩

end Sys2Proof.Statements

/-! # Writers: over every step each unit changes only where one of its writers is executed

10_state.md R22–R55 ("Written only by …") over every step: who wrote, read off a register that changed. -/

namespace Sys2Proof.Statements

open Sys2Proof.Machine

variable {s t : State} {w : Writer}

/-- The step from `s` to `t` is one of writer `w`. -/
def Wrote (s t : State) : Writer → Prop
  | .op i => Ran s i
  | .boot => s.poll.booted = false ∧ t.poll.booted = true
  | .fill =>
    s.nextEvent = .isr ∧ ∃ c w v, s.isr = some c ∧ c.handler = .xchIsr .tx ∧ c.cb ≠ .none ∧ s.nextCbItem = .fill w v
  | .other => True

theorem wrote_of_actsOn (h : w.ActsOn s.nextEvent s.takeEvent t) : Wrote s t w := by
  cases w with
  | op i => exact h.elim
  | boot => exact h
  | fill => exact h
  | other => exact h

/-- Every step has a writer and keeps within its footprint. -/
theorem step_wrote (h : step s = .next t) : ∃ w, Wrote s t w ∧ t.units = w.footprint s.units t.units := by
  rcases (step_cases h).2 with h | rfl
  · rcases stepEvent_cases h with ⟨a, o, i, hop, hi, h⟩ | ⟨a, o, -, rfl⟩ | ⟨hn, h⟩
    · rw [currentOp_takeEvent] at hop
      exact ⟨.op i, ⟨a, o, hop, hi⟩, (exec_effect h).units⟩
    · exact ⟨.other, trivial, refuse_units _⟩
    · rcases settle_cases h with h | ⟨r, -, rfl⟩
      · obtain ⟨w, hw, hu⟩ := (otherStep_effect hn h).units
        exact ⟨w, wrote_of_actsOn hw, hu⟩
      · exact ⟨.other, trivial, rfl⟩
  · exact ⟨.other, trivial, rfl⟩

section Written

variable (hw : Wrote s t w) (hu : t.units = w.footprint s.units t.units)
include hw hu

/-! ### LockFreeRingBuffer -/

theorem rings_written (hne : t.rings ≠ s.rings) : ∃ i, Ran s (.rbPut i) ∨ Ran s (.rbGet i) := by
  cases w with
  | op i =>
    cases i with
    | rbPut n => exact ⟨n, .inl hw⟩
    | rbGet n => exact ⟨n, .inr hw⟩
    | _ => exact absurd (congrArg Units.rings hu) hne
  | _ => exact absurd (congrArg Units.rings hu) hne

/-! ### TimestampCapture -/

theorem cnt_written (hne : t.cap.cnt ≠ s.cap.cnt) : Ran s .capCntTick := by
  cases w with
  | op i =>
    cases i with
    | capCntTick => exact hw
    | _ => exact absurd (congrArg (·.cap.cnt) hu) hne
  | _ => exact absurd (congrArg (·.cap.cnt) hu) hne

theorem capSr_written (hne : t.cap.sr ≠ s.cap.sr) :
    Ran s .capCntTick ∨ (∃ kind, Ran s (.capEdge kind)) ∨ Ran s .capIsr := by
  cases w with
  | op i =>
    cases i with
    | capCntTick => exact .inl hw
    | capEdge kind => exact .inr (.inl ⟨kind, hw⟩)
    | capIsr => exact .inr (.inr hw)
    | _ => exact absurd (congrArg (·.cap.sr) hu) hne
  | _ => exact absurd (congrArg (·.cap.sr) hu) hne

theorem latchR_written (hne : t.cap.latchR ≠ s.cap.latchR) : Ran s (.capEdge .rising) := by
  cases w with
  | op i =>
    cases i with
    | capEdge kind =>
      cases kind with
      | rising => exact hw
      | falling => exact absurd (congrArg (·.cap.latchR) hu) hne
    | _ => exact absurd (congrArg (·.cap.latchR) hu) hne
  | _ => exact absurd (congrArg (·.cap.latchR) hu) hne

theorem latchF_written (hne : t.cap.latchF ≠ s.cap.latchF) : Ran s (.capEdge .falling) := by
  cases w with
  | op i =>
    cases i with
    | capEdge kind =>
      cases kind with
      | rising => exact absurd (congrArg (·.cap.latchF) hu) hne
      | falling => exact hw
    | _ => exact absurd (congrArg (·.cap.latchF) hu) hne
  | _ => exact absurd (congrArg (·.cap.latchF) hu) hne

theorem capIe_written (hne : t.cap.ie ≠ s.cap.ie) : s.poll.booted = false ∧ t.poll.booted = true := by
  cases w with
  | op i => cases i <;> exact absurd (congrArg (·.cap.ie) hu) hne
  | boot => exact hw
  | _ => exact absurd (congrArg (·.cap.ie) hu) hne

theorem timestamps_written (hne : t.cap.ovc ≠ s.cap.ovc ∨ t.cap.tsR ≠ s.cap.tsR ∨ t.cap.tsF ≠ s.cap.tsF) :
    Ran s .capIsr := by
  have hne : (t.cap.ovc, t.cap.tsR, t.cap.tsF) ≠ (s.cap.ovc, s.cap.tsR, s.cap.tsF) := by
    simpa only [ne_eq, Prod.mk.injEq, not_and_or] using hne
  cases w with
  | op i =>
    cases i with
    | capIsr => exact hw
    | _ => exact absurd (congrArg (fun u => (u.cap.ovc, u.cap.tsR, u.cap.tsF)) hu) hne
  | _ => exact absurd (congrArg (fun u => (u.cap.ovc, u.cap.tsR, u.cap.tsF)) hu) hne

theorem fresh_written (hne : t.cap.fresh ≠ s.cap.fresh) : Ran s .capIsr ∨ Ran s .capPoll := by
  cases w with
  | op i =>
    cases i with
    | capIsr => exact .inl hw
    | capPoll => exact .inr hw
    | _ => exact absurd (congrArg (·.cap.fresh) hu) hne
  | _ => exact absurd (congrArg (·.cap.fresh) hu) hne

/-! ### OscillatorSteering -/

theorem steer_written (hne : t.steer ≠ s.steer) : Ran s .steerPulse := by
  cases w with
  | op i =>
    cases i with
    | steerPulse => exact hw
    | _ => exact absurd (congrArg Units.steer hu) hne
  | _ => exact absurd (congrArg Units.steer hu) hne

theorem pulseCounts_written (hne : t.stats.ppsLoss ≠ s.stats.ppsLoss ∨ t.stats.calFail ≠ s.stats.calFail) :
    Ran s .steerPulse := by
  have hne : (t.stats.ppsLoss, t.stats.calFail) ≠ (s.stats.ppsLoss, s.stats.calFail) := by
    simpa only [ne_eq, Prod.mk.injEq, not_and_or] using hne
  cases w with
  | op i =>
    cases i with
    | steerPulse => exact hw
    | _ => exact absurd (congrArg (fun u => (u.stats.ppsLoss, u.stats.calFail)) hu) hne
  | _ => exact absurd (congrArg (fun u => (u.stats.ppsLoss, u.stats.calFail)) hu) hne

/-! ### SerialFrameExchange -/

/-- One direction of the frame exchange over a step: its operations and the transmit callback, each within its own registers. -/
theorem xch_written (d : Dir) :
    t.xch d = s.xch d ∨
    (Ran s (.dmaWord d) ∧ t.xch d = (s.xch d).engineWrites d (t.xch d)) ∨
    (Ran s (.xchIsr d) ∧ t.xch d = (s.xch d).handlerWrites (t.xch d)) ∨
    (Ran s .xchStart ∧ t.xch d = (s.xch d).startWrites (t.xch d)) ∨
    (d = .tx ∧ Wrote s t .fill ∧ t.xch d = { s.xch d with slots := (t.xch d).slots }) := by
  have hd : t.xch d = (w.footprint s.units t.units).xch d := by rw [← units_xch, ← hu]
  cases w with
  | op i =>
    cases i with
    | dmaWord d' =>
      by_cases hdd : d = d'
      · subst hdd
        exact .inr (.inl ⟨hw, by simpa only [units_xch] using hd.trans (Units.setXch_same _ d _)⟩)
      · exact .inl (by simpa only [units_xch] using hd.trans (Units.setXch_other _ hdd _))
    | xchIsr d' =>
      by_cases hdd : d = d'
      · subst hdd
        exact .inr (.inr (.inl ⟨hw, by simpa only [units_xch] using hd.trans (Units.setXch_same _ d _)⟩))
      · exact .inl (by simpa only [units_xch] using hd.trans (Units.setXch_other _ hdd _))
    | xchStart => exact .inr (.inr (.inr (.inl ⟨hw, by cases d <;> exact hd⟩)))
    | _ => exact .inl (by cases d <;> exact hd)
  | fill =>
    cases d with
    | rx => exact .inl hd
    | tx => exact .inr (.inr (.inr (.inr ⟨rfl, hw, hd⟩)))
  | _ => exact .inl (by cases d <;> exact hd)

theorem rxSlots_written (hne : t.rx.slots ≠ s.rx.slots) : Ran s (.dmaWord .rx) := by
  rcases xch_written hw hu .rx with h | ⟨hr, -⟩ | ⟨-, h⟩ | ⟨-, h⟩ | ⟨h, -⟩
  · exact absurd (congrArg Exchange.slots h) hne
  · exact hr
  · exact absurd (congrArg Exchange.slots h) hne
  · exact absurd (congrArg Exchange.slots h) hne
  · cases h

theorem txSlots_written (hne : t.tx.slots ≠ s.tx.slots) : Wrote s t .fill := by
  rcases xch_written hw hu .tx with h | ⟨-, h⟩ | ⟨-, h⟩ | ⟨-, h⟩ | ⟨-, hf, -⟩
  · exact absurd (congrArg Exchange.slots h) hne
  · exact absurd (congrArg Exchange.slots h) hne
  · exact absurd (congrArg Exchange.slots h) hne
  · exact absurd (congrArg Exchange.slots h) hne
  · exact hf

theorem index_written (d : Dir) (hne : (t.xch d).cur ≠ (s.xch d).cur ∨ (t.xch d).last ≠ (s.xch d).last) :
    Ran s (.xchIsr d) ∨ Ran s .xchStart := by
  have keep : ∀ e : Exchange, t.xch d = e → e.cur = (s.xch d).cur → e.last = (s.xch d).last → False :=
    fun e he hc hl => hne.elim (absurd (he ▸ hc)) (absurd (he ▸ hl))
  rcases xch_written hw hu d with h | ⟨-, h⟩ | ⟨hr, -⟩ | ⟨hr, -⟩ | ⟨-, -, h⟩
  · exact (keep _ h rfl rfl).elim
  · exact (keep _ h rfl rfl).elim
  · exact .inl hr
  · exact .inr hr
  · exact (keep _ h rfl rfl).elim

theorem descriptors_written (d : Dir)
    (hne : (t.xch d).dmaCur ≠ (s.xch d).dmaCur ∨ (t.xch d).dmaNxt ≠ (s.xch d).dmaNxt ∨ (t.xch d).sr ≠ (s.xch d).sr) :
    Ran s (.dmaWord d) ∨ Ran s (.xchIsr d) ∨ Ran s .xchStart := by
  have keep : ∀ e : Exchange, t.xch d = e → e.dmaCur = (s.xch d).dmaCur → e.dmaNxt = (s.xch d).dmaNxt →
      e.sr = (s.xch d).sr → False :=
    fun e he hc hn hs => hne.elim (absurd (he ▸ hc)) (Or.rec (absurd (he ▸ hn)) (absurd (he ▸ hs)))
  rcases xch_written hw hu d with h | ⟨hr, -⟩ | ⟨hr, -⟩ | ⟨hr, -⟩ | ⟨-, -, h⟩
  · exact (keep _ h rfl rfl rfl).elim
  · exact .inl hr
  · exact .inr (.inl hr)
  · exact .inr (.inr hr)
  · exact (keep _ h rfl rfl rfl).elim

theorem errcnt_written (d : Dir) (hne : (t.xch d).errcnt ≠ (s.xch d).errcnt) : Ran s (.xchIsr d) := by
  rcases xch_written hw hu d with h | ⟨-, h⟩ | ⟨hr, -⟩ | ⟨-, h⟩ | ⟨-, -, h⟩
  · exact absurd (congrArg Exchange.errcnt h) hne
  · exact absurd (congrArg Exchange.errcnt h) hne
  · exact hr
  · exact absurd (congrArg Exchange.errcnt h) hne
  · exact absurd (congrArg Exchange.errcnt h) hne

theorem xchIe_written (d : Dir) (hne : (t.xch d).ie ≠ (s.xch d).ie) : Ran s .xchStart := by
  rcases xch_written hw hu d with h | ⟨-, h⟩ | ⟨-, h⟩ | ⟨hr, -⟩ | ⟨-, -, h⟩
  · exact absurd (congrArg Exchange.ie h) hne
  · exact absurd (congrArg Exchange.ie h) hne
  · exact absurd (congrArg Exchange.ie h) hne
  · exact hr
  · exact absurd (congrArg Exchange.ie h) hne

/-! ### FrameAlignmentDetector -/

theorem detCnt_written (hne : t.detCnt ≠ s.detCnt) : Ran s .alignStep := by
  cases w with
  | op i =>
    cases i with
    | alignStep => exact hw
    | _ => exact absurd (congrArg Units.detCnt hu) hne
  | _ => exact absurd (congrArg Units.detCnt hu) hne

theorem alignCounts_written (hne : t.stats.desync ≠ s.stats.desync ∨ t.stats.phaseBusy ≠ s.stats.phaseBusy) :
    Ran s .alignStep := by
  have hne : (t.stats.desync, t.stats.phaseBusy) ≠ (s.stats.desync, s.stats.phaseBusy) := by
    simpa only [ne_eq, Prod.mk.injEq, not_and_or] using hne
  cases w with
  | op i =>
    cases i with
    | alignStep => exact hw
    | _ => exact absurd (congrArg (fun u => (u.stats.desync, u.stats.phaseBusy)) hu) hne
  | _ => exact absurd (congrArg (fun u => (u.stats.desync, u.stats.phaseBusy)) hu) hne

/-! ### FrameClockPhaseAdjuster and frame timer -/

theorem ftCnt_written (hne : t.ft.cnt ≠ s.ft.cnt) : Ran s .ftTick := by
  cases w with
  | op i =>
    cases i with
    | ftTick => exact hw
    | _ => exact absurd (congrArg (·.ft.cnt) hu) hne
  | _ => exact absurd (congrArg (·.ft.cnt) hu) hne

theorem ftTop_written (hne : t.ft.top ≠ s.ft.top) : Ran s .ftIsr ∨ (s.poll.booted = false ∧ t.poll.booted = true) := by
  cases w with
  | op i =>
    cases i with
    | ftIsr => exact .inl hw
    | _ => exact absurd (congrArg (·.ft.top) hu) hne
  | boot => exact .inr hw
  | _ => exact absurd (congrArg (·.ft.top) hu) hne

theorem request_written (hne : t.ft.pend ≠ s.ft.pend ∨ t.ft.armed ≠ s.ft.armed) :
    Ran s .ftIsr ∨ ∃ dir, Ran s (.phaseRequest dir) := by
  have hne : (t.ft.pend, t.ft.armed) ≠ (s.ft.pend, s.ft.armed) := by
    simpa only [ne_eq, Prod.mk.injEq, not_and_or] using hne
  cases w with
  | op i =>
    cases i with
    | ftIsr => exact .inl hw
    | phaseRequest dir => exact .inr ⟨dir, hw⟩
    | _ => exact absurd (congrArg (fun u => (u.ft.pend, u.ft.armed)) hu) hne
  | _ => exact absurd (congrArg (fun u => (u.ft.pend, u.ft.armed)) hu) hne

theorem matched_written (hne : t.ft.matched ≠ s.ft.matched) :
    Ran s .ftTick ∨ Ran s .ftIsr ∨ ∃ dir, Ran s (.phaseRequest dir) := by
  cases w with
  | op i =>
    cases i with
    | ftTick => exact .inl hw
    | ftIsr => exact .inr (.inl hw)
    | phaseRequest dir => exact .inr (.inr ⟨dir, hw⟩)
    | _ => exact absurd (congrArg (·.ft.matched) hu) hne
  | _ => exact absurd (congrArg (·.ft.matched) hu) hne

/-! ### BitRealigner -/

theorem realigners_written (hne : t.realigners ≠ s.realigners) :
    ∃ i, (∃ n, Ran s (.raSetAlignment i n)) ∨ Ran s (.raRealignFrame i) := by
  cases w with
  | op i =>
    cases i with
    | raSetAlignment n bits => exact ⟨n, .inl ⟨bits, hw⟩⟩
    | raRealignFrame n => exact ⟨n, .inr hw⟩
    | _ => exact absurd (congrArg Units.realigners hu) hne
  | _ => exact absurd (congrArg Units.realigners hu) hne

end Written

/-- Settles O24: the step's writer, and for each register the writers whose footprint holds it. -/
theorem unitsHaveTheirWriters : Obligations.UnitsHaveTheirWriters := by
  intro s t h
  obtain ⟨w, hw, hu⟩ := step_wrote h
  exact ⟨rings_written hw hu, cnt_written hw hu, capSr_written hw hu, latchR_written hw hu, latchF_written hw hu,
    capIe_written hw hu, timestamps_written hw hu, fresh_written hw hu, rxSlots_written hw hu, txSlots_written hw hu,
    steer_written hw hu, index_written hw hu, descriptors_written hw hu, errcnt_written hw hu, xchIe_written hw hu,
    detCnt_written hw hu, ftCnt_written hw hu, ftTop_written hw hu, request_written hw hu, matched_written hw hu,
    realigners_written hw hu, alignCounts_written hw hu, pulseCounts_written hw hu, (step_frame h).primask, step_isr h,
    (step_frame h).cfg⟩

end Sys2Proof.Statements

/-! # Rings: single producer, single consumer

One ring under the micro-steps of RB_PUT and RB_GET (40_ring_buffer.md R101, R103): its form is kept, and what a context
waiting inside its own operation has read stays true. -/

namespace Sys2Proof.Safety

open Sys2Proof.Machine

/-! ### Cursors -/

/-- The cursor after `c`, without a remainder. -/
theorem nextCursor_of_le {n c : Nat} (h : c ≤ n) : nextCursor n c = if c = n then 0 else c + 1 := by
  unfold nextCursor
  split
  · subst c; exact Nat.mod_self _
  · exact Nat.mod_eq_of_lt (by omega)

theorem nextCursor_le (n c : Nat) : nextCursor n c ≤ n := Nat.lt_succ_iff.mp (Nat.mod_lt _ (Nat.succ_pos n))

theorem nextCursor_injective {n a b : Nat} (ha : a ≤ n) (hb : b ≤ n) (h : nextCursor n a = nextCursor n b) : a = b := by
  rw [nextCursor_of_le ha, nextCursor_of_le hb] at h
  split at h <;> split at h <;> omega

/-- The way from cursor `a` forward to `b` in a ring of capacity `n`. -/
def ahead (n a b : Nat) : Nat := if a ≤ b then b - a else b + (n + 1) - a

theorem ahead_eq_mod {n a b : Nat} (ha : a ≤ n) (hb : b ≤ n) : (b + (n + 1) - a) % (n + 1) = ahead n a b := by
  unfold ahead
  split
  · rw [show b + (n + 1) - a = b - a + (n + 1) by omega, Nat.add_mod_right]
    exact Nat.mod_eq_of_lt (by omega)
  · exact Nat.mod_eq_of_lt (by omega)

/-- Slot `j` of a ring with its cursors in range holds an element: it lies from the read cursor on, before the write cursor. -/
theorem holdsElement_iff {n : Nat} {r : Ring} (hw : r.wr ≤ n) (hr : r.rd ≤ n) {j : Nat} (hj : j ≤ n) :
    holdsElement n r j ↔ ahead n r.rd j < ahead n r.rd r.wr := by
  unfold holdsElement occupancy
  rw [ahead_eq_mod hr hj, ahead_eq_mod hr hw]

/-- The oldest slot of a ring that is not empty. -/
theorem holdsElement_rd {n : Nat} {r : Ring} (hw : r.wr ≤ n) (hr : r.rd ≤ n) (hne : r.rd ≠ r.wr) :
    holdsElement n r r.rd := by
  rw [holdsElement_iff hw hr hr]
  unfold ahead
  split_ifs <;> omega

/-! ### The ring under the three writes -/

/-- RB_PUT μ2: element `v` stored at the write cursor. -/
def storeElem (r : Ring) (v : Nat) : Ring := { r with buf := r.buf.set r.wr (Reg.of v) }

/-- RB_PUT μ3: the write cursor goes on. -/
def publishWr (n : Nat) (r : Ring) : Ring := { r with wr := nextCursor n r.wr }

/-- RB_GET μ3: the read cursor goes on. -/
def releaseRd (n : Nat) (r : Ring) : Ring := { r with rd := nextCursor n r.rd }

theorem slotWritten_storeElem_wr {r : Ring} (h : r.wr < r.buf.length) (v : Nat) : slotWritten (storeElem r v) r.wr :=
  ⟨Reg.of v, by simp [storeElem, h], rfl⟩

theorem slotWritten_storeElem {r : Ring} {j : Nat} (h : slotWritten r j) (v : Nat) : slotWritten (storeElem r v) j := by
  obtain ⟨c, hc, hw⟩ := h
  by_cases hj : r.wr = j
  · subst hj
    exact slotWritten_storeElem_wr (List.getElem?_eq_some_iff.mp hc).1 v
  · exact ⟨c, by simp [storeElem, List.getElem?_set_ne hj, hc], hw⟩

theorem ringOk_storeElem {n : Nat} {r : Ring} (h : RingOk n r) (v : Nat) : RingOk n (storeElem r v) where
  slots := by simp [storeElem, h.slots]
  wr := h.wr
  rd := h.rd
  unread j hj hold := slotWritten_storeElem (h.unread j hj hold) v

theorem ringOk_publishWr {n : Nat} {r : Ring} (h : RingOk n r) (hfree : nextCursor n r.wr ≠ r.rd) (hw : slotWritten r r.wr) :
    RingOk n (publishWr n r) where
  slots := h.slots
  wr := nextCursor_le n r.wr
  rd := h.rd
  unread j hj hold := by
    by_cases hjw : j = r.wr
    · subst hjw; exact hw
    · refine h.unread j hj ((holdsElement_iff h.wr h.rd hj).mpr ?_)
      have hin : ahead n r.rd j < ahead n r.rd (nextCursor n r.wr) :=
        (holdsElement_iff (r := publishWr n r) (nextCursor_le n r.wr) h.rd hj).mp hold
      have hwr := h.wr
      have hrd := h.rd
      rw [nextCursor_of_le hwr] at hin hfree
      unfold ahead at hin ⊢
      split_ifs at hin hfree ⊢ <;> omega

theorem ringOk_releaseRd {n : Nat} {r : Ring} (h : RingOk n r) (hne : r.rd ≠ r.wr) : RingOk n (releaseRd n r) where
  slots := h.slots
  wr := h.wr
  rd := nextCursor_le n r.rd
  unread j hj hold := by
    refine h.unread j hj ((holdsElement_iff h.wr h.rd hj).mpr ?_)
    have hin : ahead n (nextCursor n r.rd) j < ahead n (nextCursor n r.rd) r.wr :=
      (holdsElement_iff (r := releaseRd n r) h.wr (nextCursor_le n r.rd) hj).mp hold
    have hwr := h.wr
    have hrd := h.rd
    rw [nextCursor_of_le hrd] at hin
    unfold ahead at hin ⊢
    split_ifs at hin ⊢ <;> omega

/-! ### A context waiting inside its operation -/

/-- The ring a place inside RB_PUT or RB_GET is on, and the declared side it belongs to (40_ring_buffer.md R108). -/
def home (p : Params) : RbStage → Option (Nat × Option Ctx)
  | .start => none
  | .putStore i _ _ => some (i, p.rbProducer[i]?)
  | .putPublish i _ => some (i, p.rbProducer[i]?)
  | .getRead i _ => some (i, p.rbConsumer[i]?)
  | .getPublish i _ _ => some (i, p.rbConsumer[i]?)

/-- What a place inside RB_PUT or RB_GET says of its ring: the part of `StageOk` about the ring alone. -/
def RingAt (n : Nat) (r : Ring) : RbStage → Prop
  | .start => True
  | .putStore _ w nw => w = r.wr ∧ nw = nextCursor n r.wr ∧ nw ≠ r.rd
  | .putPublish _ nw => nw = nextCursor n r.wr ∧ nw ≠ r.rd ∧ slotWritten r r.wr
  | .getRead _ rd => rd = r.rd ∧ r.rd ≠ r.wr
  | .getPublish _ rd v => rd = r.rd ∧ r.rd ≠ r.wr ∧ ∃ c, r.buf[rd]? = some c ∧ c.written = true ∧ c.val = v

theorem stageOk_iff {s : State} {who : Ctx} {st : RbStage} :
    StageOk s who st ↔
      ∀ i side, home s.cfg st = some (i, side) →
        side = some who ∧ ∃ r, s.rings[i]? = some r ∧ RingAt s.cfg.rbN r st := by
  cases st <;> simp [StageOk, home, RingAt]

theorem stageOk_congr {s t : State} (hc : t.cfg = s.cfg) (hr : t.rings = s.rings) {who : Ctx} {st : RbStage} :
    StageOk t who st ↔ StageOk s who st := by
  rw [stageOk_iff, stageOk_iff, hc, hr]

/-- A place stays true where its own ring changes in a way that keeps what the place says. -/
theorem stageOk_setRing {s : State} {who : Ctx} {st : RbStage} {i : Nat} {r r' : Ring} (h : StageOk s who st)
    (hr : s.rings[i]? = some r)
    (hkeep : home s.cfg st = some (i, some who) → RingAt s.cfg.rbN r st → RingAt s.cfg.rbN r' st) :
    StageOk (s.setRing i r') who st := by
  rw [stageOk_iff] at h ⊢
  intro j side hj
  obtain ⟨rfl, q, hq, hat⟩ := h j side hj
  refine ⟨rfl, ?_⟩
  by_cases hij : i = j
  · subst hij
    obtain rfl : q = r := Option.some.inj (hq.symm.trans hr)
    exact ⟨r', by simp [(List.getElem?_eq_some_iff.mp hr).1], hkeep hj hat⟩
  · exact ⟨q, by simp [List.getElem?_set_ne hij, hq], hat⟩

variable {n : Nat} {r : Ring} {p : Params} {who : Ctx} {i : Nat} {st : RbStage}

/-- The producer's store disturbs nobody: it writes the one slot that is free. -/
theorem ringAt_storeElem (h : RingAt n r st) (v : Nat) : RingAt n (storeElem r v) st := by
  cases st with
  | start => trivial
  | putStore i w nw => exact h
  | putPublish i nw =>
    obtain ⟨hnw, hfree, hw⟩ := h
    exact ⟨hnw, hfree, slotWritten_storeElem hw v⟩
  | getRead i rd => exact h
  | getPublish i rd u =>
    obtain ⟨rfl, hne, c, hc, hw⟩ := h
    exact ⟨rfl, hne, c, by simp [storeElem, List.getElem?_set_ne (Ne.symm hne), hc], hw⟩

/-- The producer's publication does not disturb the consumer. -/
theorem ringAt_publishWr (hhome : home p st = some (i, some who)) (hother : p.rbProducer[i]? ≠ some who)
    (hfree : nextCursor n r.wr ≠ r.rd) (h : RingAt n r st) : RingAt n (publishWr n r) st := by
  cases st with
  | start => trivial
  | putStore j w nw =>
    obtain ⟨rfl, hside⟩ := Prod.mk.inj (Option.some.inj hhome)
    exact absurd hside hother
  | putPublish j nw =>
    obtain ⟨rfl, hside⟩ := Prod.mk.inj (Option.some.inj hhome)
    exact absurd hside hother
  | getRead j rd =>
    obtain ⟨rfl, -⟩ := h
    exact ⟨rfl, hfree.symm⟩
  | getPublish j rd v =>
    obtain ⟨rfl, -, hslot⟩ := h
    exact ⟨rfl, hfree.symm, hslot⟩

/-- The consumer's publication does not disturb the producer. -/
theorem ringAt_releaseRd (hok : RingOk n r) (hhome : home p st = some (i, some who)) (hother : p.rbConsumer[i]? ≠ some who)
    (hne : r.rd ≠ r.wr) (h : RingAt n r st) : RingAt n (releaseRd n r) st := by
  have hfree : nextCursor n r.wr ≠ nextCursor n r.rd := fun he => hne (nextCursor_injective hok.wr hok.rd he).symm
  cases st with
  | start => trivial
  | putStore j w nw =>
    obtain ⟨rfl, rfl, -⟩ := h
    exact ⟨rfl, rfl, hfree⟩
  | putPublish j nw =>
    obtain ⟨rfl, -, hw⟩ := h
    exact ⟨rfl, hfree, hw⟩
  | getRead j rd =>
    obtain ⟨rfl, hside⟩ := Prod.mk.inj (Option.some.inj hhome)
    exact absurd hside hother
  | getPublish j rd v =>
    obtain ⟨rfl, hside⟩ := Prod.mk.inj (Option.some.inj hhome)
    exact absurd hside hother

end Sys2Proof.Safety

/-! # The invariant under each update of the state

One rule per update of the state: what has to hold of the new part for the invariant to be kept. The proofs about
operations use these rules and do not open the invariant. -/

namespace Sys2Proof.Safety

open Sys2Proof.Machine

variable {s t : State}

/-! ### What the invariant does not read -/

/-- The state with everything the invariant does not read put to a fixed value. -/
def bare (s : State) : State :=
  { s with
    stats := { desync := 0, phaseBusy := 0, ppsLoss := 0, calFail := 0 }
    refused := false
    poll := { s.poll with prog := [], index := 0, hold := none }
    portA := { elem := 0, word := 0, frame := Vector.replicate 32 0 }
    portB := 0
    agent := .poll
    obs := []
    sched := []
    evIdx := 0
    cbItems := []
    cbIdx := 0
    freeIdx := 0 }

theorem inv_bare : Inv (bare s) ↔ Inv s :=
  ⟨fun h => ⟨h.cfg, h.faults, h.primask, h.ringCount, h.rings, h.capture, h.steering, h.rx, h.tx, h.detector, h.timer,
    h.realignerCount, h.realigners, h.isr, h.stage, h.boot⟩,
   fun h => ⟨h.cfg, h.faults, h.primask, h.ringCount, h.rings, h.capture, h.steering, h.rx, h.tx, h.detector, h.timer,
    h.realignerCount, h.realigners, h.isr, h.stage, h.boot⟩⟩

/-- An update of what the invariant does not read. -/
theorem Inv.of_bare (h : Inv s) (he : bare t = bare s) : Inv t := inv_bare.mp (he ▸ inv_bare.mpr h)

theorem Inv.observe (h : Inv s) (o : Obs) : Inv (s.observe o) := h.of_bare rfl

theorem Inv.takeEvent (h : Inv s) : Inv s.takeEvent := h.of_bare rfl

theorem Inv.issue (h : Inv s) (a : Agent) (o : IssuedOp) : Inv (s.issue a o) := h.of_bare rfl

/-! ### The interrupt context -/

/-- The part of `IsrOk` about XCH_ISR(d). -/
structure ExchangeCtxOk (s : State) (d : Dir) (c : IsrCtx) : Prop where
  low : 1 ≤ c.mu
  high : c.mu ≤ 6
  done : 3 ≤ c.mu → isEnd c.hX = true → c.done.toNat < s.cfg.depth d
  buff : isBuff c.hX = true → isEnd c.hX = true
  atCallback : c.cb ≠ .none → c.mu = 6 ∧ isEnd c.hX = true
  callback : CallbackOk s d c.cb

theorem isrOk_capIsr {c : IsrCtx} (hh : c.handler = .capIsr) :
    IsrOk s c ↔ c.cb = .none ∧ 1 ≤ c.mu ∧ c.mu ≤ 5 ∧ (isLdr c.hSr = true → s.cap.latchR.written = true) ∧
      (isLdf c.hSr = true → s.cap.latchF.written = true) := by
  simp only [IsrOk, hh]

theorem isrOk_ftIsr {c : IsrCtx} (hh : c.handler = .ftIsr) : IsrOk s c ↔ c.cb = .none ∧ 1 ≤ c.mu ∧ c.mu ≤ 2 := by
  simp only [IsrOk, hh]

theorem isrOk_xchIsr {c : IsrCtx} {d : Dir} (hh : c.handler = .xchIsr d) : IsrOk s c ↔ ExchangeCtxOk s d c := by
  simp only [IsrOk, hh]
  exact ⟨fun ⟨hlo, hhi, hdone, hbuff, hat, hcb⟩ => ⟨hlo, hhi, hdone, hbuff, hat, hcb⟩,
    fun h => ⟨h.low, h.high, h.done, h.buff, h.atCallback, h.callback⟩⟩

/-- A callback runs inside XCH_ISR only. -/
theorem IsrOk.handler_of_callback {c : IsrCtx} (h : IsrOk s c) (hcb : c.cb ≠ .none) : ∃ d, c.handler = .xchIsr d := by
  cases hh : c.handler with
  | capIsr => exact absurd ((isrOk_capIsr hh).mp h).1 hcb
  | xchIsr d => exact ⟨d, rfl⟩
  | ftIsr => exact absurd ((isrOk_ftIsr hh).mp h).1 hcb

theorem CallbackOk.mono {d : Dir} {cb : Callback} (h : CallbackOk s d cb) (hcfg : t.cfg = s.cfg)
    (hst : ∀ st, cb = .external st → StageOk s .isr st → StageOk t .isr st) : CallbackOk t d cb := by
  cases cb with
  | external st => exact hst st rfl h
  | alignEven slot => exact ⟨h.1, hcfg ▸ h.2⟩
  | alignOdd slot w0 => exact ⟨h.1, hcfg ▸ h.2⟩
  | _ => exact h

/-- The active context depends on the configuration, the latches and, inside an external callback, the rings. -/
theorem IsrOk.mono {c : IsrCtx} (h : IsrOk s c) (hcfg : t.cfg = s.cfg)
    (hR : s.cap.latchR.written = true → t.cap.latchR.written = true)
    (hF : s.cap.latchF.written = true → t.cap.latchF.written = true)
    (hst : ∀ st, c.cb = .external st → StageOk s .isr st → StageOk t .isr st) : IsrOk t c := by
  cases hh : c.handler with
  | capIsr =>
    obtain ⟨hcb, hlo, hhi, hlR, hlF⟩ := (isrOk_capIsr hh).mp h
    exact (isrOk_capIsr hh).mpr ⟨hcb, hlo, hhi, fun hs => hR (hlR hs), fun hs => hF (hlF hs)⟩
  | ftIsr => exact (isrOk_ftIsr hh).mpr ((isrOk_ftIsr hh).mp h)
  | xchIsr d =>
    have hx := (isrOk_xchIsr hh).mp h
    exact (isrOk_xchIsr hh).mpr ⟨hx.low, hx.high, hcfg ▸ hx.done, hx.buff, hx.atCallback, hx.callback.mono hcfg hst⟩

theorem IsrOk.congr {c : IsrCtx} (h : IsrOk s c) (hcfg : t.cfg = s.cfg) (hrings : t.rings = s.rings) (hcap : t.cap = s.cap) :
    IsrOk t c :=
  h.mono hcfg (by rw [hcap]; exact id) (by rw [hcap]; exact id) fun _ _ => (stageOk_congr hcfg hrings).mpr

/-- The place of an external callback inside RB_PUT or RB_GET. -/
theorem IsrOk.stage {c : IsrCtx} {st : RbStage} (h : IsrOk s c) (hcb : c.cb = .external st) : StageOk s .isr st := by
  obtain ⟨d, hh⟩ := h.handler_of_callback (by simp [hcb])
  have hx := ((isrOk_xchIsr hh).mp h).callback
  rw [hcb] at hx
  exact hx

/-- The callback of XCH_ISR goes on to `cb`. -/
theorem IsrOk.setCallback {c : IsrCtx} {d : Dir} {cb : Callback} (h : IsrOk s c) (hh : c.handler = .xchIsr d)
    (hin : c.cb ≠ .none) (hcb : CallbackOk s d cb) : IsrOk s { c with cb := cb } :=
  have hx := (isrOk_xchIsr hh).mp h
  (isrOk_xchIsr (c := { c with cb := cb }) hh).mpr ⟨hx.low, hx.high, hx.done, hx.buff, fun _ => hx.atCallback hin, hcb⟩

/-- ALIGN_STEP is inside a scan in this interrupt context. -/
def scanningIn (o : Option IsrCtx) : Bool :=
  match o with
  | some c => scanning c.cb
  | none => false

/-- The range of DET_CNT inside a scan and outside (10_state.md R47; 44_alignment.md R190). -/
def CountOk (p : Params) (scan : Bool) (n : Half) : Prop :=
  if scan = true then n = 0 else n ≠ 0 ∧ n.toNat ≤ p.alignCheckInterval.toNat

theorem detectorOk_iff : DetectorOk s ↔ CountOk s.cfg (scanningIn s.isr) s.detCnt := Iff.rfl

/-- A handler runs only after the boot step. -/
theorem Inv.booted_of_isr (h : Inv s) {c : IsrCtx} (hc : s.isr = some c) : s.poll.booted = true := by
  cases hb : s.poll.booted with
  | true => rfl
  | false =>
    obtain ⟨-, -, -, -, hnone⟩ := h.boot hb
    rw [hnone] at hc
    cases hc

theorem Inv.setContext (h : Inv s) {o : Option IsrCtx} {n : Half} (hc : ∀ c, o = some c → IsrOk s c)
    (hd : CountOk s.cfg (scanningIn o) n) (hb : s.poll.booted = false → o = none) :
    Inv { s with isr := o, detCnt := n } :=
  { h with
    isr := fun c ho => (hc c ho).congr rfl rfl rfl
    detector := hd
    stage := (stageOk_congr rfl rfl).mpr h.stage
    boot := fun hb' =>
      let ⟨hcap, hrx, htx, hft, _⟩ := h.boot hb'
      ⟨hcap, hrx, htx, hft, hb hb'⟩ }

/-- The active handler goes on to `c`. -/
theorem Inv.setIsr (h : Inv s) {c c' : IsrCtx} (hs : s.isr = some c) (hc : IsrOk s c')
    (hd : scanning c'.cb = scanning c.cb) : Inv (s.setIsr c') := by
  have hcount : CountOk s.cfg (scanning c'.cb) s.detCnt := by
    have hdet := detectorOk_iff.mp h.detector
    rw [hs] at hdet
    rw [hd]
    exact hdet
  refine h.setContext (fun c ho => ?_) hcount fun hb => ?_
  · cases ho; exact hc
  · rw [h.booted_of_isr hs] at hb
    cases hb

/-- The active handler ends outside a scan. -/
theorem Inv.endHandler (h : Inv s) (hd : scanningIn s.isr = false) : Inv { s with isr := none } := by
  have hcount := detectorOk_iff.mp h.detector
  rw [hd] at hcount
  exact h.setContext nofun hcount fun _ => rfl

theorem Inv.leaveHandler (h : Inv s) (hd : scanningIn s.isr = false) (i : Instr) (r : Result) : Inv (s.leaveHandler i r) :=
  (h.endHandler hd).observe _

theorem bare_leaveExchange (s : State) (c : IsrCtx) : bare (s.leaveExchange c) = bare { s with isr := none } := by
  unfold State.leaveExchange
  split <;> rfl

theorem Inv.leaveExchange (h : Inv s) (hd : scanningIn s.isr = false) (c : IsrCtx) : Inv (s.leaveExchange c) :=
  (h.endHandler hd).of_bare (bare_leaveExchange s c)

/-! ### The issuing contexts -/

theorem Inv.setPollStage (h : Inv s) {st : RbStage} (hst : StageOk s .poll st) :
    Inv { s with poll := { s.poll with stage := st } } :=
  { h with
    isr := fun c hc => (h.isr c hc).congr rfl rfl rfl
    stage := (stageOk_congr rfl rfl).mpr hst }

theorem Inv.setCallbackStage (h : Inv s) {c : IsrCtx} {st st' : RbStage} (hs : s.isr = some c) (hcb : c.cb = .external st)
    (hst : StageOk s .isr st') : Inv (s.setIsr { c with cb := .external st' }) := by
  have hne : c.cb ≠ .none := by simp [hcb]
  obtain ⟨d, hh⟩ := (h.isr c hs).handler_of_callback hne
  exact h.setIsr hs ((h.isr c hs).setCallback hh hne hst) (by simp [hcb, scanning])

/-- A context as the agent that issues for it. -/
def issuer : Ctx → Agent
  | .poll => .poll
  | .isr => .isr

theorem Inv.setStage (h : Inv s) {st : RbStage} (hst : ∀ who, s.agent = issuer who → StageOk s who st) :
    Inv (s.setStage st) := by
  obtain ⟨a, ha⟩ | ha | ⟨ha, hx⟩ | ⟨c, st', ha, hc, hcb⟩ := issuer_cases s
  · rw [setStage_of_hw ha]; exact h
  · rw [setStage_of_poll ha]; exact h.setPollStage (hst .poll ha)
  · rw [setStage_of_handler ha hx]; exact h
  · rw [setStage_of_callback ha hc hcb]; exact h.setCallbackStage hc hcb (hst .isr ha)

theorem Inv.advance (h : Inv s) : Inv s.advance := by
  have hstart : Inv (s.setStage .start) := h.setStage fun _ _ => trivial
  obtain ⟨a, ha⟩ | ha | ⟨ha, hx⟩ | ⟨c, st', ha, hc, hcb⟩ := issuer_cases s
  · rw [advance_of_hw ha]; exact h
  · rw [setStage_of_poll ha] at hstart
    rw [advance_of_poll ha]; exact hstart.of_bare rfl
  · rw [advance_of_handler ha hx]; exact h
  · rw [setStage_of_callback ha hc hcb] at hstart
    rw [advance_of_callback ha hc hcb]; exact hstart.of_bare rfl

theorem Inv.complete (h : Inv s) (r : Result) : Inv (s.complete r) := (h.observe _).advance

theorem Inv.refuse (h : Inv s) : Inv s.refuse :=
  Inv.advance (s := { s with refused := true }) (h.of_bare rfl)

/-- Context `who` stands at `st` inside RB_PUT or RB_GET. -/
def StandsAt (s : State) (who : Ctx) (st : RbStage) : Prop :=
  match who with
  | .poll => s.poll.stage = st
  | .isr => ∃ c, s.isr = some c ∧ c.cb = .external st

theorem Inv.stageOk_of_standsAt (h : Inv s) {who : Ctx} {st : RbStage} (hat : StandsAt s who st) : StageOk s who st := by
  cases who with
  | poll => obtain rfl := hat; exact h.stage
  | isr =>
    obtain ⟨c, hc, hcb⟩ := hat
    exact (h.isr c hc).stage hcb

/-- Who acts for a declared side stands at its stage. -/
theorem standsAt_of_actsFor {side : Option Ctx} (h : s.actsFor side = true) :
    ∃ who, s.agent = issuer who ∧ side = some who ∧ StandsAt s who s.stage := by
  rcases actsFor_cases h with ⟨ha, hside⟩ | ⟨ha, hside, hin⟩
  · exact ⟨.poll, ha, hside, by simp [StandsAt, State.stage, ha]⟩
  · obtain ⟨c, st, hc, -, hcb⟩ := inReceive_cases hin
    exact ⟨.isr, ha, hside, c, hc, by simp [State.stage, ha, hc, hcb]⟩

/-- After its operation has ended, the issuing context stands at no micro-step. -/
theorem standsAt_complete {who : Ctx} (ha : s.agent = issuer who) {r : Result} {st : RbStage}
    (hat : StandsAt (s.complete r) who st) : st = .start := by
  cases who with
  | poll =>
    rw [State.complete, advance_of_poll (s := s.observe _) ha] at hat
    exact hat.symm
  | isr =>
    obtain ⟨c, hc, hcb⟩ := hat
    rw [State.complete] at hc
    cases hx : s.inExternal with
    | true =>
      obtain ⟨c', st', hc', hcb'⟩ := inExternal_iff.mp hx
      rw [advance_of_callback (s := s.observe _) ha hc' hcb'] at hc
      cases hc
      exact (Callback.external.inj hcb).symm
    | false =>
      rw [advance_of_handler (s := s.observe _) ha hx] at hc
      exact absurd (inExternal_iff.mpr ⟨c, st, hc, hcb⟩ : s.inExternal = true) (by simp [hx])

/-! ### The units -/

theorem Inv.setRing (h : Inv s) {i : Nat} {r r' : Ring} (hr : s.rings[i]? = some r) (hok : RingOk s.cfg.rbN r')
    (hkeep : ∀ who st, StandsAt s who st → home s.cfg st = some (i, some who) → RingAt s.cfg.rbN r st →
      RingAt s.cfg.rbN r' st) : Inv (s.setRing i r') :=
  { h with
    ringCount := by simpa using h.ringCount
    rings := fun j q hq => by
      rcases List.mem_or_eq_of_mem_set (List.mem_of_getElem? hq) with hmem | rfl
      · obtain ⟨k, hk⟩ := List.mem_iff_getElem?.mp hmem
        exact h.rings k q hk
      · exact hok
    isr := fun c hc => (h.isr c hc).mono rfl id id fun st hcb hst =>
      stageOk_setRing hst hr (hkeep .isr st ⟨c, hc, hcb⟩)
    stage := stageOk_setRing h.stage hr (hkeep .poll _ rfl) }

theorem Inv.setCapture (h : Inv s) {c : Capture} (hc : CaptureOk c)
    (hR : s.cap.latchR.written = true → c.latchR.written = true) (hF : s.cap.latchF.written = true → c.latchF.written = true)
    (hie : s.poll.booted = false → c.ie = 0) : Inv { s with cap := c } :=
  { h with
    capture := hc
    isr := fun x hx => (h.isr x hx).mono rfl hR hF fun _ _ => (stageOk_congr rfl rfl).mpr
    stage := (stageOk_congr rfl rfl).mpr h.stage
    boot := fun hb =>
      let ⟨_, hrx, htx, hft, hisr⟩ := h.boot hb
      ⟨hie hb, hrx, htx, hft, hisr⟩ }

theorem Inv.setSteering (h : Inv s) {st : Steering} (hst : SteeringOk s.cfg st) : Inv { s with steer := st } :=
  { h with
    steering := hst
    isr := fun c hc => (h.isr c hc).congr rfl rfl rfl
    stage := (stageOk_congr rfl rfl).mpr h.stage }

theorem Inv.exchange (h : Inv s) (d : Dir) : ExchangeOk (s.cfg.depth d) (s.xch d) := by
  cases d with
  | rx => exact h.rx
  | tx => exact h.tx

theorem Inv.setExchange (h : Inv s) {d : Dir} {e : Exchange} (he : ExchangeOk (s.cfg.depth d) e)
    (hie : s.poll.booted = false → e.ie = false) : Inv (s.setXch d e) := by
  cases d with
  | rx =>
    exact { h with
      rx := he
      isr := fun c hc => (h.isr c hc).congr rfl rfl rfl
      stage := (stageOk_congr rfl rfl).mpr h.stage
      boot := fun hb =>
        let ⟨hcap, _, htx, hft, hisr⟩ := h.boot hb
        ⟨hcap, hie hb, htx, hft, hisr⟩ }
  | tx =>
    exact { h with
      tx := he
      isr := fun c hc => (h.isr c hc).congr rfl rfl rfl
      stage := (stageOk_congr rfl rfl).mpr h.stage
      boot := fun hb =>
        let ⟨hcap, hrx, _, hft, hisr⟩ := h.boot hb
        ⟨hcap, hrx, hie hb, hft, hisr⟩ }

theorem Inv.setTimer (h : Inv s) {f : FrameTimer} (hf : FrameTimerOk s.cfg f) (hb : s.poll.booted = false → f.armed = false) :
    Inv { s with ft := f } :=
  { h with
    timer := hf
    isr := fun c hc => (h.isr c hc).congr rfl rfl rfl
    stage := (stageOk_congr rfl rfl).mpr h.stage
    boot := fun hb' =>
      let ⟨hcap, hrx, htx, _, hisr⟩ := h.boot hb'
      ⟨hcap, hrx, htx, hb hb', hisr⟩ }

theorem Inv.setRealigner (h : Inv s) {i : Nat} {r : Realigner} (hr : RealignerOk s.cfg r) : Inv (s.setRealigner i r) :=
  { h with
    realignerCount := by simpa using h.realignerCount
    realigners := fun j q hq => by
      rcases List.mem_or_eq_of_mem_set (List.mem_of_getElem? hq) with hmem | rfl
      · obtain ⟨k, hk⟩ := List.mem_iff_getElem?.mp hmem
        exact h.realigners k q hk
      · exact hr
    isr := fun c hc => (h.isr c hc).congr rfl rfl rfl
    stage := (stageOk_congr rfl rfl).mpr h.stage }

end Sys2Proof.Safety

/-! # The invariant under the ring, capture and frame-timer operations

In a state of the invariant an operation meets no model fault and keeps the invariant: the outcomes shared by all
operations, then LockFreeRingBuffer, TimestampCapture and the frame timer. -/

namespace Sys2Proof.Safety

open Sys2Proof.Machine

variable {s : State}

/-! ### Outcomes -/

/-- A body that meets no fault and ends in a state of the invariant. -/
def BodyKeeps (e : Except Fault State) : Prop := ∃ t, e = .ok t ∧ Inv t

/-- A step that answers a state of the invariant. -/
def Keeps (o : Host.Outcome State Fault Refusal) : Prop := ∃ t, o = .next t ∧ Inv t

theorem Inv.keeps {t : State} (h : Inv t) : Keeps (.next t) := ⟨t, rfl, h⟩

theorem Inv.bodyKeeps {t : State} (h : Inv t) : BodyKeeps (.ok t) := ⟨t, rfl, h⟩

theorem settle_keeps {e : Except Fault State} (h : BodyKeeps e) : Keeps (settle s e) := by
  obtain ⟨t, rfl, ht⟩ := h
  exact ht.keeps

theorem byAgent_keeps {a : Agent} {f : State → Except Fault State} (h : Inv s) (hf : s.agent = a → BodyKeeps (f s)) :
    Keeps (byAgent a f s) := by
  by_cases ha : s.agent = a
  · rw [byAgent_of f ha]
    exact settle_keeps (hf ha)
  · rw [byAgent_other f ha]
    exact h.refuse.keeps

theorem bySide_keeps {side : Option Ctx} {f : State → Except Fault State} (h : Inv s)
    (hf : ∀ who, s.agent = issuer who → side = some who → StandsAt s who s.stage → BodyKeeps (f s)) :
    Keeps (bySide side f s) := by
  cases ha : s.actsFor side with
  | true =>
    obtain ⟨who, hwho, hside, hat⟩ := standsAt_of_actsFor ha
    rw [bySide_of f ha]
    exact settle_keeps (hf who hwho hside hat)
  | false =>
    rw [bySide_other f ha]
    exact h.refuse.keeps

theorem byHandler_keeps {hd : Handler} {f : IsrCtx → State → Except Fault State} (h : Inv s)
    (hf : ∀ c, s.isr = some c → c.handler = hd → c.cb = .none → BodyKeeps (f c s)) : Keeps (byHandler hd f s) := by
  unfold byHandler
  split
  · rename_i c _ hc
    split
    · rename_i hh
      exact settle_keeps (hf c hc hh.1 hh.2)
    · exact h.refuse.keeps
  · exact h.refuse.keeps

/-- A critical section whose body does not depend on PRIMASK. -/
theorem critical_keeps {f : State → Except Fault State} {t : State}
    (hf : f { s with primask := true } = .ok { t with primask := true }) (ht : Inv t) : BodyKeeps (critical f s) := by
  have heq : ({ t with primask := false } : State) = t := by rw [← ht.primask]
  exact ⟨{ t with primask := false }, by rw [critical, hf]; rfl, heq.symm ▸ ht⟩

/-- How a context goes on does not depend on PRIMASK. -/
theorem advance_setPrimask (s : State) (b : Bool) :
    ({ s with primask := b } : State).advance = { s.advance with primask := b } := by
  obtain ⟨a, ha⟩ | ha | ⟨ha, hx⟩ | ⟨c, st, ha, hc, hcb⟩ := issuer_cases s
  · rw [advance_of_hw ha]; exact advance_of_hw (s := { s with primask := b }) ha
  · rw [advance_of_poll ha]; exact advance_of_poll (s := { s with primask := b }) ha
  · rw [advance_of_handler ha hx]; exact advance_of_handler (s := { s with primask := b }) ha hx
  · rw [advance_of_callback ha hc hcb]; exact advance_of_callback (s := { s with primask := b }) ha hc hcb

/-- How a context goes on does not depend on the rings. -/
theorem advance_setRing (s : State) (i : Nat) (r : Ring) : (s.setRing i r).advance = s.advance.setRing i r := by
  obtain ⟨a, ha⟩ | ha | ⟨ha, hx⟩ | ⟨c, st, ha, hc, hcb⟩ := issuer_cases s
  · rw [advance_of_hw ha]; exact advance_of_hw (s := s.setRing i r) ha
  · rw [advance_of_poll ha]; exact advance_of_poll (s := s.setRing i r) ha
  · rw [advance_of_handler ha hx]; exact advance_of_handler (s := s.setRing i r) ha hx
  · rw [advance_of_callback ha hc hcb]; exact advance_of_callback (s := s.setRing i r) ha hc hcb

theorem complete_setPrimask (s : State) (b : Bool) (r : Result) :
    ({ s with primask := b } : State).complete r = { s.complete r with primask := b } :=
  advance_setPrimask (s.observe (.result s.agent r)) b

theorem complete_setRing (s : State) (i : Nat) (q : Ring) (r : Result) :
    (s.setRing i q).complete r = (s.complete r).setRing i q :=
  advance_setRing (s.observe (.result s.agent r)) i q

/-! ### LockFreeRingBuffer -/

section Ring

variable {who : Ctx} {i : Nat}

theorem issuer_injective {a b : Ctx} (h : issuer a = issuer b) : a = b := by
  cases a <;> cases b <;> simp [issuer] at h ⊢

/-- The issuing context moves to a micro-step of its own that is true. -/
theorem Inv.goesTo (h : Inv s) (ha : s.agent = issuer who) {st : RbStage} (hst : StageOk s who st) : Inv (s.setStage st) :=
  h.setStage fun _ hwho => issuer_injective (ha.symm.trans hwho) ▸ hst

theorem Inv.ring (h : Inv s) (hi : i < s.cfg.rbCount) : ∃ r, s.rings[i]? = some r :=
  ⟨_, List.getElem?_eq_getElem (h.ringCount.symm ▸ hi)⟩

/-- The producer publishes: its own operation has ended, and the consumer is not disturbed. -/
theorem Inv.publish (h : Inv s) (ha : s.agent = issuer who) (hp : s.cfg.rbProducer[i]? = some who) {r : Ring}
    (hr : s.rings[i]? = some r) (hfree : nextCursor s.cfg.rbN r.wr ≠ r.rd) (hw : slotWritten r r.wr) (x : Result) :
    Inv ((s.setRing i (publishWr s.cfg.rbN r)).complete x) := by
  have hc := h.complete x
  rw [complete_setRing]
  refine hc.setRing (r := r) (by simpa using hr) (by simpa using ringOk_publishWr (h.rings i r hr) hfree hw) ?_
  intro who' st hat hhome hin
  simp only [complete_cfg] at hhome hin ⊢
  refine ringAt_publishWr hhome ?_ hfree hin
  intro hp'
  obtain rfl : who = who' := Option.some.inj (hp.symm.trans hp')
  rw [standsAt_complete ha hat] at hhome
  cases hhome

/-- The consumer publishes: its own operation has ended, and the producer is not disturbed. -/
theorem Inv.release (h : Inv s) (ha : s.agent = issuer who) (hp : s.cfg.rbConsumer[i]? = some who) {r : Ring}
    (hr : s.rings[i]? = some r) (hne : r.rd ≠ r.wr) (x : Result) :
    Inv ((s.setRing i (releaseRd s.cfg.rbN r)).complete x) := by
  have hok := h.rings i r hr
  have hc := h.complete x
  rw [complete_setRing]
  refine hc.setRing (r := r) (by simpa using hr) (by simpa using ringOk_releaseRd hok hne) ?_
  intro who' st hat hhome hin
  simp only [complete_cfg] at hhome hin ⊢
  refine ringAt_releaseRd hok hhome ?_ hne hin
  intro hp'
  obtain rfl : who = who' := Option.some.inj (hp.symm.trans hp')
  rw [standsAt_complete ha hat] at hhome
  cases hhome

theorem putBegin_keeps (h : Inv s) (hi : i < s.cfg.rbCount) (ha : s.agent = issuer who)
    (hp : s.cfg.rbProducer[i]? = some who) : BodyKeeps (putBegin i s) := by
  obtain ⟨r, hr⟩ := h.ring hi
  unfold putBegin
  rw [unitAt_some hr]
  by_cases hfull : nextCursor s.cfg.rbN r.wr = r.rd
  · exact ⟨_, if_pos hfull, h.complete _⟩
  · exact ⟨_, if_neg hfull, h.goesTo ha ⟨hp, r, hr, rfl, rfl, hfull⟩⟩

theorem putStore_keeps (h : Inv s) (ha : s.agent = issuer who) {w nw : Nat} (hst : StageOk s who (.putStore i w nw)) :
    BodyKeeps (putStore i w nw s) := by
  obtain ⟨hp, r, hr, rfl, rfl, hfree⟩ := hst
  have hok := h.rings i r hr
  have hlt : r.wr < r.buf.length := by rw [hok.slots]; exact Nat.lt_succ_of_le hok.wr
  have hstored : Inv (s.setRing i (storeElem r s.elemOperand)) :=
    h.setRing hr (ringOk_storeElem hok _) fun _ _ _ _ hat => ringAt_storeElem hat _
  unfold putStore
  rw [unitAt_some hr]
  refine ⟨_, by dsimp only [bind, Except.bind]; rw [writeSlot_lt hlt]; rfl, hstored.goesTo ha ?_⟩
  have hring : (s.setRing i (storeElem r s.elemOperand)).rings[i]? = some (storeElem r s.elemOperand) := by
    simp [(List.getElem?_eq_some_iff.mp hr).1]
  exact ⟨hp, storeElem r s.elemOperand, hring, rfl, hfree, slotWritten_storeElem_wr hlt _⟩

theorem putPublish_keeps (h : Inv s) (ha : s.agent = issuer who) {nw : Nat} (hst : StageOk s who (.putPublish i nw)) :
    BodyKeeps (putPublish i nw s) := by
  obtain ⟨hp, r, hr, rfl, hfree, hw⟩ := hst
  unfold putPublish
  rw [unitAt_some hr]
  exact ⟨_, rfl, h.publish ha hp hr hfree hw _⟩

theorem getBegin_keeps (h : Inv s) (hi : i < s.cfg.rbCount) (ha : s.agent = issuer who)
    (hc : s.cfg.rbConsumer[i]? = some who) : BodyKeeps (getBegin i s) := by
  obtain ⟨r, hr⟩ := h.ring hi
  unfold getBegin
  rw [unitAt_some hr]
  by_cases hempty : r.rd = r.wr
  · exact ⟨_, if_pos hempty, h.complete _⟩
  · exact ⟨_, if_neg hempty, h.goesTo ha ⟨hc, r, hr, rfl, hempty⟩⟩

theorem getRead_keeps (h : Inv s) (ha : s.agent = issuer who) {rd : Nat} (hst : StageOk s who (.getRead i rd)) :
    BodyKeeps (getRead i rd s) := by
  obtain ⟨hc, r, hr, rfl, hne⟩ := hst
  have hok := h.rings i r hr
  obtain ⟨c, hslot, hw⟩ := hok.unread r.rd hok.rd (holdsElement_rd hok.wr hok.rd hne)
  have hread : r.readSlot r.rd = .ok c.val := by simp only [Ring.readSlot, hslot, reg_read_written hw]
  unfold getRead
  rw [unitAt_some hr]
  refine ⟨_, by dsimp only [bind, Except.bind]; rw [hread], h.goesTo ha ?_⟩
  exact ⟨hc, r, hr, rfl, hne, c, hslot, hw, rfl⟩

theorem getPublish_keeps (h : Inv s) (ha : s.agent = issuer who) {rd v : Nat} (hst : StageOk s who (.getPublish i rd v)) :
    BodyKeeps (getPublish i rd v s) := by
  obtain ⟨hc, r, hr, rfl, hne, -⟩ := hst
  unfold getPublish
  rw [unitAt_some hr]
  exact ⟨_, rfl, h.release ha hc hr hne _⟩

theorem putStep_keeps (h : Inv s) (hi : i < s.cfg.rbCount) (ha : s.agent = issuer who)
    (hp : s.cfg.rbProducer[i]? = some who) (hat : StandsAt s who s.stage) : BodyKeeps (putStep i s) := by
  have hst := h.stageOk_of_standsAt hat
  unfold putStep
  split
  · rename_i hon
    exact putStore_keeps h ha (on_eq_putStore hon ▸ hst)
  · rename_i hon
    exact putPublish_keeps h ha (on_eq_putPublish hon ▸ hst)
  all_goals exact putBegin_keeps h hi ha hp

theorem getStep_keeps (h : Inv s) (hi : i < s.cfg.rbCount) (ha : s.agent = issuer who)
    (hc : s.cfg.rbConsumer[i]? = some who) (hat : StandsAt s who s.stage) : BodyKeeps (getStep i s) := by
  have hst := h.stageOk_of_standsAt hat
  unfold getStep
  split
  · rename_i hon
    exact getRead_keeps h ha (on_eq_getRead hon ▸ hst)
  · rename_i hon
    exact getPublish_keeps h ha (on_eq_getPublish hon ▸ hst)
  all_goals exact getBegin_keeps h hi ha hc

end Ring

theorem execRbPut_keeps (h : Inv s) (n : BitVec 8) : Keeps (execRbPut n s) := by
  unfold execRbPut
  split
  · rename_i hi
    exact bySide_keeps h fun _ ha hp hat => putStep_keeps h hi ha hp hat
  · exact h.refuse.keeps

theorem execRbGet_keeps (h : Inv s) (n : BitVec 8) : Keeps (execRbGet n s) := by
  unfold execRbGet
  split
  · rename_i hi
    exact bySide_keeps h fun _ ha hc hat => getStep_keeps h hi ha hc hat
  · exact h.refuse.keeps

/-! ### TimestampCapture -/

@[simp] theorem isLdr_or_ovf (sr : BitVec 3) : isLdr (sr ||| flagOvf) = isLdr sr := by revert sr; decide
@[simp] theorem isLdf_or_ovf (sr : BitVec 3) : isLdf (sr ||| flagOvf) = isLdf sr := by revert sr; decide
@[simp] theorem isLdr_or_ldf (sr : BitVec 3) : isLdr (sr ||| flagLdf) = isLdr sr := by revert sr; decide
@[simp] theorem isLdf_or_ldr (sr : BitVec 3) : isLdf (sr ||| flagLdr) = isLdf sr := by revert sr; decide

@[simp] theorem clearRead_self {n : Nat} (flags : BitVec n) : clearRead flags flags = 0 := by simp [clearRead]

theorem isNewR_publish (fresh : BitVec 2) (r f : Bool) :
    isNewR (fresh ||| (if r then flagNewR else 0) ||| (if f then flagNewF else 0)) = (isNewR fresh || r) := by
  revert fresh r f; decide

theorem isNewF_publish (fresh : BitVec 2) (r f : Bool) :
    isNewF (fresh ||| (if r then flagNewR else 0) ||| (if f then flagNewF else 0)) = (isNewF fresh || f) := by
  revert fresh r f; decide

theorem captureOk_tick {c : Capture} (h : CaptureOk c) : CaptureOk c.tick where
  ldr hs := h.ldr (by unfold Capture.tick at hs; dsimp only at hs; split at hs <;> simpa using hs)
  ldf hs := h.ldf (by unfold Capture.tick at hs; dsimp only at hs; split at hs <;> simpa using hs)
  newR := h.newR
  newF := h.newF

theorem captureOk_edge {c : Capture} (h : CaptureOk c) (kind : EdgeKind) : CaptureOk (c.edge kind) := by
  cases kind with
  | rising => exact ⟨fun _ => rfl, fun hs => h.ldf (by simpa [Capture.edge] using hs), h.newR, h.newF⟩
  | falling => exact ⟨fun hs => h.ldr (by simpa [Capture.edge] using hs), fun _ => rfl, h.newR, h.newF⟩

/-- A timestamp is written in the same step as its mailbox flag. -/
theorem captureOk_publish {c : Capture} (h : CaptureOk c) (x : IsrCtx) : CaptureOk (c.publish x) where
  ldr := h.ldr
  ldf := h.ldf
  newR hs := by
    simp only [Capture.publish, isNewR_publish, Bool.or_eq_true] at hs ⊢
    split
    · rfl
    · exact h.newR (hs.resolve_right ‹_›)
  newF hs := by
    simp only [Capture.publish, isNewF_publish, Bool.or_eq_true] at hs ⊢
    split
    · rfl
    · exact h.newF (hs.resolve_right ‹_›)

theorem captureOk_read {c : Capture} (h : CaptureOk c) : CaptureOk { c with sr := clearRead c.sr c.sr } :=
  ⟨by simp [isLdr], by simp [isLdf], h.newR, h.newF⟩

theorem captureOk_poll {c : Capture} (h : CaptureOk c) : CaptureOk { c with fresh := 0 } :=
  ⟨h.ldr, h.ldf, by simp [isNewR], by simp [isNewF]⟩

theorem Inv.ie_of_unbooted (h : Inv s) (hb : s.poll.booted = false) : s.cap.ie = 0 := (h.boot hb).1

theorem execCapCntTick_keeps (h : Inv s) : Keeps (execCapCntTick s) :=
  byAgent_keeps h fun _ => (h.setCapture (captureOk_tick h.capture) id id h.ie_of_unbooted).bodyKeeps

theorem execCapEdge_keeps (h : Inv s) (kind : EdgeKind) : Keeps (execCapEdge kind s) := by
  refine byAgent_keeps h fun _ => (h.setCapture (captureOk_edge h.capture kind) ?_ ?_ ?_).bodyKeeps
  · cases kind with
    | rising => exact fun _ => rfl
    | falling => exact id
  · cases kind with
    | rising => exact id
    | falling => exact fun _ => rfl
  · cases kind <;> exact h.ie_of_unbooted

/-- CAP_ISR goes on to micro-step `mu` with the locals of `c'`. -/
theorem Inv.capIsr_goesOn {c c' : IsrCtx} (h : Inv s) (hs : s.isr = some c) (hcb : c.cb = .none) (hh' : c'.handler = .capIsr)
    (hcb' : c'.cb = .none) (hlo : 1 ≤ c'.mu) (hhi : c'.mu ≤ 5) (hR : isLdr c'.hSr = true → s.cap.latchR.written = true)
    (hF : isLdf c'.hSr = true → s.cap.latchF.written = true) : Inv (s.setIsr c') :=
  h.setIsr hs ((isrOk_capIsr hh').mpr ⟨hcb', hlo, hhi, hR, hF⟩) (by rw [hcb, hcb'])

theorem capIsrStep_keeps (h : Inv s) {c : IsrCtx} (hs : s.isr = some c) (hh : c.handler = .capIsr) (hcb : c.cb = .none) :
    BodyKeeps (capIsrStep c s) := by
  obtain ⟨-, hlo, hhi, hR, hF⟩ := (isrOk_capIsr hh).mp (h.isr c hs)
  have hquiet : scanningIn s.isr = false := by rw [hs]; simp [scanningIn, hcb, scanning]
  unfold capIsrStep
  split
  · have hread := h.setCapture (captureOk_read h.capture) id id h.ie_of_unbooted
    exact Inv.bodyKeeps (hread.capIsr_goesOn hs hcb hh hcb (by simp) (by simp) h.capture.ldr h.capture.ldf)
  · exact Inv.bodyKeeps (h.capIsr_goesOn hs hcb hh hcb (by simp) (by simp) hR hF)
  · split
    · rename_i hset
      rw [reg_read_written (hR hset)]
      exact ⟨_, rfl, h.capIsr_goesOn hs hcb hh hcb (by simp) (by simp) hR hF⟩
    · exact Inv.bodyKeeps (h.capIsr_goesOn hs hcb hh hcb (by simp) (by simp) hR hF)
  · split
    · rename_i hset
      rw [reg_read_written (hF hset)]
      exact ⟨_, rfl, h.capIsr_goesOn hs hcb hh hcb (by simp) (by simp) hR hF⟩
    · exact Inv.bodyKeeps (h.capIsr_goesOn hs hcb hh hcb (by simp) (by simp) hR hF)
  · exact ((h.setCapture (captureOk_publish h.capture c) id id h.ie_of_unbooted).leaveHandler hquiet _ _).bodyKeeps
  · exact h.refuse.bodyKeeps

theorem execCapIsr_keeps (h : Inv s) : Keeps (execCapIsr s) :=
  byHandler_keeps h fun _ hs hh hcb => capIsrStep_keeps h hs hh hcb

/-- A mailbox whose flag is set holds its timestamp. -/
theorem mailbox_ok {isNew : Bool} {r : Reg Word} (h : isNew = true → r.written = true) :
    mailbox isNew r = .ok (if isNew then some r.val else none) := by
  unfold mailbox
  cases isNew with
  | true => rw [if_pos rfl, reg_read_written (h rfl)]; rfl
  | false => rfl

theorem execCapPoll_keeps (h : Inv s) : Keeps (execCapPoll s) := by
  refine byAgent_keeps h fun _ => ?_
  have hcleared := h.setCapture (captureOk_poll h.capture) id id h.ie_of_unbooted
  refine critical_keeps ?_ (hcleared.complete (.ok (.event (if isNewR s.cap.fresh then some s.cap.tsR.val else none)
    (if isNewF s.cap.fresh then some s.cap.tsF.val else none))))
  unfold capPollStep
  dsimp only
  rw [mailbox_ok h.capture.newR, mailbox_ok h.capture.newF, ← complete_setPrimask]
  rfl

end Sys2Proof.Safety

/-! # The invariant under the exchange, alignment, frame-timer and realigner operations

In a state of the invariant an operation meets no model fault and keeps the invariant: SerialFrameExchange,
FrameAlignmentDetector, FrameClockPhaseAdjuster with the frame timer, BitRealigner, STATS_SNAPSHOT. -/

namespace Sys2Proof.Safety

open Sys2Proof.Machine

variable {s : State}

/-! ### What a valid configuration gives -/

theorem depth_of_valid {p : Params} (h : p.valid = true) (d : Dir) : 2 ≤ p.depth d ∧ p.depth d ≤ 127 := by
  simp only [Params.valid, Bool.and_eq_true, decide_eq_true_eq] at h
  cases d with
  | rx => exact ⟨by simp only [Params.depth]; omega, by simp only [Params.depth]; omega⟩
  | tx => exact ⟨by simp only [Params.depth]; omega, by simp only [Params.depth]; omega⟩

theorem frameSize_of_valid {p : Params} (h : p.valid = true) : 1 ≤ p.f ∧ p.f ≤ 32 := by
  simp only [Params.valid, Bool.and_eq_true, decide_eq_true_eq] at h
  omega

theorem alignCheckInterval_of_valid {p : Params} (h : p.valid = true) : p.alignCheckInterval ≠ 0 := by
  simp only [Params.valid, Bool.and_eq_true, decide_eq_true_eq] at h
  tauto

theorem dacMax_of_valid {p : Params} (h : p.valid = true) : 0 ≤ p.dacMax := by
  simp only [Params.valid, Bool.and_eq_true, decide_eq_true_eq] at h
  omega

/-! ### SerialFrameExchange: one direction -/

section Exchange

variable {n : Nat} {e : Exchange}

theorem slotAfter_lt (hlo : 2 ≤ n) (hhi : n ≤ 127) (k : Nat) (slot : Byte) : (slotAfter n k slot).toNat < n := by
  have hmod : (slot.toNat + k) % n < n := Nat.mod_lt _ (by omega)
  rw [slotAfter, BitVec.toNat_ofNat, Nat.mod_eq_of_lt (by omega)]
  exact hmod

theorem slotZero_lt (hlo : 2 ≤ n) : (0 : Byte).toNat < n := Nat.lt_of_lt_of_le (by decide) hlo

theorem slotOne_lt (hlo : 2 ≤ n) : (1 : Byte).toNat < n := Nat.lt_of_lt_of_le (by decide) hlo

theorem exchangeOk_armCur (h : ExchangeOk n e) {slot : Byte} (hs : slot.toNat < n) :
    ExchangeOk n { e with dmaCur := DmaCur.arm slot } :=
  { h with dmaCur := fun _ => ⟨hs, (by decide : (0 : Byte).toNat < 16)⟩ }

theorem exchangeOk_armNxt (h : ExchangeOk n e) {slot : Byte} (hs : slot.toNat < n) :
    ExchangeOk n { e with dmaNxt := DmaNxt.arm slot } :=
  { h with dmaNxt := fun _ => hs }

theorem exchangeOk_setCur (h : ExchangeOk n e) {cur : Byte} (hs : cur.toNat < n) : ExchangeOk n { e with cur := cur } :=
  { h with cur := hs }

/-- An engine that moves on to its next descriptor. -/
theorem exchangeOk_nextLoaded (h : ExchangeOk n e) (hv : e.dmaNxt.valid = true) :
    ExchangeOk n { e with dmaCur := DmaCur.arm e.dmaNxt.slot, dmaNxt := { e.dmaNxt with valid := false } } :=
  { exchangeOk_armCur h (h.dmaNxt hv) with dmaNxt := nofun }

theorem exchangeOk_start (h : ExchangeOk n e) (hlo : 2 ≤ n) : ExchangeOk n e.start :=
  { exchangeOk_setCur (exchangeOk_armNxt (exchangeOk_armCur h (slotZero_lt hlo)) (slotOne_lt hlo)) (slotZero_lt hlo) with
    last := .inr rfl
    buff := by simp [Exchange.start, isBuff] }

theorem exchangeOk_slots (h : ExchangeOk n e) {m : Memory} (hm : Memory.wf n m = true) : ExchangeOk n { e with slots := m } :=
  { h with slots := hm }

/-- A loaded engine works on a descriptor in range. -/
theorem exchangeOk_load (h : ExchangeOk n e) {e' : Exchange} (hl : e.load = some e') :
    ExchangeOk n e' ∧ e'.dmaCur.valid = true ∧ e'.ie = e.ie := by
  unfold Exchange.load at hl
  split at hl
  · rename_i hv
    cases hl
    exact ⟨h, hv, rfl⟩
  · split at hl <;> cases hl
    rename_i hv
    exact ⟨exchangeOk_nextLoaded h hv, rfl, rfl⟩

theorem isBuff_or_end (sr : BitVec 2) : isBuff (sr ||| flagEnd) = true → isEnd (sr ||| flagEnd) = true := by
  revert sr; decide

theorem isEnd_or_both (sr : BitVec 2) : isEnd (sr ||| flagEnd ||| flagBuff) = true := by revert sr; decide

theorem exchangeOk_moved (h : ExchangeOk n e) (hv : e.dmaCur.valid = true) : ExchangeOk n e.moved := by
  obtain ⟨hslot, hpos⟩ := h.dmaCur hv
  unfold Exchange.moved
  dsimp only
  split
  · split
    · rename_i hn
      exact { exchangeOk_nextLoaded h hn with buff := isBuff_or_end e.sr }
    · exact { h with dmaCur := nofun, buff := fun _ => isEnd_or_both e.sr }
  · rename_i hk
    have hnext : (e.dmaCur.pos + 1).toNat < 16 := by bv_omega
    exact { h with dmaCur := fun _ => ⟨hslot, hnext⟩ }

theorem moved_ie (e : Exchange) : e.moved.ie = e.ie := by rw [moved_eq]

end Exchange

theorem Inv.ie_of_booted {e : Exchange} (hb : s.poll.booted = true) : s.poll.booted = false → e.ie = false := by simp [hb]

theorem Inv.xchIe_of_unbooted (h : Inv s) (d : Dir) (hb : s.poll.booted = false) : (s.xch d).ie = false := by
  obtain ⟨-, hrx, htx, -, -⟩ := h.boot hb
  cases d with
  | rx => exact hrx
  | tx => exact htx

theorem xchStartStep_keeps (h : Inv s) (hb : s.poll.booted = true) : BodyKeeps (xchStartStep s) := by
  have hrx : Inv (s.setXch .rx s.rx.start) :=
    h.setExchange (exchangeOk_start h.rx (depth_of_valid h.cfg .rx).1) (Inv.ie_of_booted hb)
  have htx : Inv ((s.setXch .rx s.rx.start).setXch .tx s.tx.start) :=
    hrx.setExchange (exchangeOk_start h.tx (depth_of_valid h.cfg .tx).1) (Inv.ie_of_booted (s := s) hb)
  unfold xchStartStep
  split
  · exact h.refuse.bodyKeeps
  · exact (htx.complete _).bodyKeeps

theorem execXchStart_keeps (h : Inv s) (hb : s.agent = .poll → s.poll.booted = true) : Keeps (execXchStart s) :=
  byAgent_keeps h fun ha => xchStartStep_keeps h (hb ha)

theorem dmaStep_keeps (h : Inv s) (d : Dir) : BodyKeeps (dmaStep d s) := by
  unfold dmaStep
  split
  · rename_i e he
    obtain ⟨hok, hv, hie⟩ := exchangeOk_load (h.exchange d) he
    obtain ⟨hslot, hpos⟩ := hok.dmaCur hv
    have hkept : s.poll.booted = false → e.moved.ie = false := fun hb => by
      rw [moved_ie, hie]; exact h.xchIe_of_unbooted d hb
    cases d with
    | rx =>
      obtain ⟨slot, -, hm⟩ := writeWord_ok hok.slots hslot hpos s.wordOperand
      have hwritten := exchangeOk_slots hok (writeWord_wf hok.slots hm)
      refine ⟨_, by simp only [dmaMove]; rw [show s.cfg.nRx = s.cfg.depth .rx from rfl, hm]; rfl, ?_⟩
      exact h.setExchange (exchangeOk_moved hwritten hv) fun hb => by
        rw [moved_ie]; exact hie.trans (h.xchIe_of_unbooted .rx hb)
    | tx =>
      obtain ⟨v, hread⟩ := readWord_wf hok.slots hslot hpos
      refine ⟨_, by simp only [dmaMove]; rw [show s.cfg.nTx = s.cfg.depth .tx from rfl, hread]; rfl, ?_⟩
      exact Inv.observe (h.setExchange (exchangeOk_moved hok hv) hkept) _
  · cases d with
    | rx => exact h.bodyKeeps
    | tx => exact Inv.bodyKeeps (h.of_bare rfl)

theorem execDmaWord_keeps (h : Inv s) (d : Dir) : Keeps (execDmaWord d s) :=
  byAgent_keeps h fun _ => dmaStep_keeps h d

/-! ### SerialFrameExchange: the handler -/

section Handler

variable {d : Dir} {c : IsrCtx}

/-- XCH_ISR goes on: its direction becomes `e`, its context `c'`. -/
theorem Inv.xchIsr_goesOn (h : Inv s) (hs : s.isr = some c) (hcb : c.cb = .none) {e : Exchange}
    (he : ExchangeOk (s.cfg.depth d) e) {c' : IsrCtx} (hh' : c'.handler = .xchIsr d) (hcb' : c'.cb = .none)
    (hc' : ExchangeCtxOk s d c') : Inv ((s.setXch d e).setIsr c') := by
  have hset := h.setExchange he (Inv.ie_of_booted (h.booted_of_isr hs))
  have hctx : IsrOk (s.setXch d e) c' := ((isrOk_xchIsr hh').mpr hc').congr (by simp) (by simp) (by simp)
  exact hset.setIsr (by simpa using hs) hctx (by rw [hcb, hcb'])

/-- XCH_ISR goes on and leaves its direction. -/
theorem Inv.xchIsr_passes (h : Inv s) (hs : s.isr = some c) (hcb : c.cb = .none) {c' : IsrCtx} (hh' : c'.handler = .xchIsr d)
    (hcb' : c'.cb = .none) (hc' : ExchangeCtxOk s d c') : Inv (s.setIsr c') :=
  h.setIsr hs ((isrOk_xchIsr hh').mpr hc') (by rw [hcb, hcb'])

/-- The handler's context at micro-step `mu`, past the point where it recorded the finishing slot. -/
theorem ExchangeCtxOk.moveTo (hc : ExchangeCtxOk s d c) (hcb : c.cb = .none) {mu : Nat} (hlo : 1 ≤ mu) (hhi : mu ≤ 6)
    (hdone : 3 ≤ mu → isEnd c.hX = true → c.done.toNat < s.cfg.depth d) : ExchangeCtxOk s d { c with mu := mu } where
  low := hlo
  high := hhi
  done := hdone
  buff := hc.buff
  atCallback hne := absurd hcb hne
  callback := hc.callback

theorem xchRead_keeps (h : Inv s) (hs : s.isr = some c) (hh : c.handler = .xchIsr d) (hcb : c.cb = .none) :
    Inv (xchRead d c s) := by
  have he := h.exchange d
  have hcleared : ExchangeOk (s.cfg.depth d) { s.xch d with sr := clearRead (s.xch d).sr (s.xch d).sr } :=
    { he with buff := by simp [isBuff] }
  refine h.xchIsr_goesOn hs hcb hcleared hh hcb ⟨by simp, by simp, by simp, he.buff, fun hne => absurd hcb hne, ?_⟩
  simp only [hcb, CallbackOk]

theorem xchPublish_keeps (h : Inv s) (hs : s.isr = some c) (hh : c.handler = .xchIsr d) (hcb : c.cb = .none)
    (hc : ExchangeCtxOk s d c) : Inv (xchPublish d c s) := by
  obtain ⟨hlo, hhi⟩ := depth_of_valid h.cfg d
  have he := h.exchange d
  unfold xchPublish
  dsimp only
  split
  · have hadvanced : ExchangeOk (s.cfg.depth d)
        { s.xch d with last := (s.xch d).cur, cur := slotAfter (s.cfg.depth d) 1 (s.xch d).cur } :=
      { he with cur := slotAfter_lt hlo hhi _ _, last := .inl he.cur }
    exact h.xchIsr_goesOn hs hcb hadvanced hh hcb
      ⟨by simp, by simp, fun _ _ => he.cur, hc.buff, fun hne => absurd hcb hne, hc.callback⟩
  · rename_i hend
    exact h.xchIsr_passes hs hcb hh hcb (hc.moveTo hcb (by simp) (by simp) fun _ he => absurd he hend)

theorem xchArm_keeps (h : Inv s) (hs : s.isr = some c) (hh : c.handler = .xchIsr d) (hcb : c.cb = .none)
    (hc : ExchangeCtxOk s d c) (hmu : 3 ≤ c.mu) : Inv (xchArm d c s) := by
  obtain ⟨hlo, hhi⟩ := depth_of_valid h.cfg d
  have hc' : ExchangeCtxOk s d { c with mu := 4 } := hc.moveTo hcb (by simp) (by simp) fun _ => hc.done hmu
  unfold xchArm
  dsimp only
  split
  · exact h.xchIsr_goesOn hs hcb (exchangeOk_armNxt (h.exchange d) (slotAfter_lt hlo hhi _ _)) hh hcb hc'
  · exact h.xchIsr_passes hs hcb hh hcb hc'

theorem xchRestartCur_keeps (h : Inv s) (hs : s.isr = some c) (hh : c.handler = .xchIsr d) (hcb : c.cb = .none)
    (hc : ExchangeCtxOk s d c) (hmu : 3 ≤ c.mu) : Inv (xchRestartCur d c s) := by
  have hlo := (depth_of_valid h.cfg d).1
  have hc' : ExchangeCtxOk s d { c with mu := 5 } := hc.moveTo hcb (by simp) (by simp) fun _ => hc.done hmu
  have hrestarted : ExchangeOk (s.cfg.depth d) { s.xch d with errcnt := (s.xch d).errcnt + 1, dmaCur := DmaCur.arm 0 } :=
    { exchangeOk_armCur (h.exchange d) (slotZero_lt hlo) with }
  unfold xchRestartCur
  dsimp only
  split
  · exact h.xchIsr_goesOn hs hcb hrestarted hh hcb hc'
  · exact h.xchIsr_passes hs hcb hh hcb hc'

theorem xchRestartNxt_keeps (h : Inv s) (hs : s.isr = some c) (hh : c.handler = .xchIsr d) (hcb : c.cb = .none)
    (hc : ExchangeCtxOk s d c) (hmu : 3 ≤ c.mu) : Inv (xchRestartNxt d c s) := by
  have hlo := (depth_of_valid h.cfg d).1
  have hc' : ExchangeCtxOk s d { c with mu := 6 } := hc.moveTo hcb (by simp) (by simp) fun _ => hc.done hmu
  have hrestarted := exchangeOk_setCur (exchangeOk_armNxt (h.exchange d) (slotOne_lt hlo)) (slotZero_lt hlo)
  unfold xchRestartNxt
  dsimp only
  split
  · exact h.xchIsr_goesOn hs hcb hrestarted hh hcb hc'
  · exact h.xchIsr_passes hs hcb hh hcb hc'

/-- The callback XCH_ISR invokes has done nothing yet. -/
theorem callbackOf_ok (s : State) (d : Dir) : CallbackOk s d (callbackOf s.cfg d) ∧ scanning (callbackOf s.cfg d) = false := by
  cases d with
  | rx =>
    unfold callbackOf
    dsimp only
    split
    · exact ⟨rfl, rfl⟩
    · exact ⟨trivial, rfl⟩
  | tx => exact ⟨trivial, rfl⟩

theorem xchCallback_keeps (h : Inv s) (hs : s.isr = some c) (hh : c.handler = .xchIsr d) (hcb : c.cb = .none)
    (hc : ExchangeCtxOk s d c) (hmu : c.mu = 6) : Inv (xchCallback d c s) := by
  obtain ⟨hok, hquiet⟩ := callbackOf_ok s d
  unfold xchCallback
  split
  · rename_i hend
    have hc' : ExchangeCtxOk s d { c with cb := callbackOf s.cfg d } :=
      ⟨hc.low, hc.high, hc.done, hc.buff, fun _ => ⟨hmu, hend⟩, hok⟩
    exact h.setIsr hs ((isrOk_xchIsr (c := { c with cb := callbackOf s.cfg d }) hh).mpr hc') (by rw [hcb]; exact hquiet)
  · exact h.leaveExchange (by rw [hs]; simp [scanningIn, hcb, scanning]) c

theorem xchIsrStep_keeps (h : Inv s) (hs : s.isr = some c) (hh : c.handler = .xchIsr d) (hcb : c.cb = .none) :
    BodyKeeps (xchIsrStep d c s) := by
  have hc := (isrOk_xchIsr hh).mp (h.isr c hs)
  unfold xchIsrStep
  split
  · exact (xchRead_keeps h hs hh hcb).bodyKeeps
  · exact (xchPublish_keeps h hs hh hcb hc).bodyKeeps
  · rename_i hmu
    exact (xchArm_keeps h hs hh hcb hc (by omega)).bodyKeeps
  · rename_i hmu
    exact (xchRestartCur_keeps h hs hh hcb hc (by omega)).bodyKeeps
  · rename_i hmu
    exact (xchRestartNxt_keeps h hs hh hcb hc (by omega)).bodyKeeps
  · rename_i hmu
    exact (xchCallback_keeps h hs hh hcb hc hmu).bodyKeeps
  · exact h.refuse.bodyKeeps

end Handler

theorem execXchIsr_keeps (h : Inv s) (d : Dir) : Keeps (execXchIsr d s) :=
  byHandler_keeps h fun _ hs hh hcb => xchIsrStep_keeps h hs hh hcb

/-! ### FrameAlignmentDetector -/

section Align

variable {c : IsrCtx}

/-- ALIGN_STEP and with it XCH_ISR end, DET_CNT being `n`. -/
theorem Inv.alignReturn (h : Inv s) {n : Half} (hn : CountOk s.cfg false n) (hb : s.poll.booted = true) (c : IsrCtx)
    (r : Result) : Inv (({ s with detCnt := n } : State).alignReturn c r) := by
  have hleft : Inv { s with isr := none, detCnt := n } := h.setContext nofun hn (by simp [hb])
  exact hleft.of_bare (bare_leaveExchange _ c)

theorem Inv.alignReload (h : Inv s) (hb : s.poll.booted = true) (c : IsrCtx) (r : Result) : Inv (alignReload c r s) :=
  h.alignReturn ⟨alignCheckInterval_of_valid h.cfg, Nat.le_refl _⟩ hb c r

/-- ALIGN_STEP goes on inside a scan. -/
theorem Inv.alignGoesOn (h : Inv s) (hs : s.isr = some c) (hh : c.handler = .xchIsr .rx) (hscan : scanning c.cb = true)
    {cb : Callback} (hcb : CallbackOk s .rx cb) (hscan' : scanning cb = true) : Inv (s.setIsr { c with cb := cb }) := by
  have hin : c.cb ≠ .none := fun he => by rw [he] at hscan; cases hscan
  exact h.setIsr hs ((h.isr c hs).setCallback hh hin hcb) (hscan'.trans hscan.symm)

theorem alignCount_keeps (h : Inv s) (hs : s.isr = some c) (hh : c.handler = .xchIsr .rx) (hcb : c.cb = .alignEntry) :
    Inv (alignCount c s) := by
  have hcount := detectorOk_iff.mp h.detector
  rw [hs, scanningIn, hcb] at hcount
  obtain ⟨hne, hle⟩ : s.detCnt ≠ 0 ∧ s.detCnt.toNat ≤ s.cfg.alignCheckInterval.toNat := hcount
  unfold alignCount
  dsimp only
  split
  · rename_i hleft
    exact h.alignReturn (n := s.detCnt - 1) ⟨hleft, by bv_omega⟩ (h.booted_of_isr hs) c _
  · rename_i hzero
    have hcb' : CallbackOk s .rx (.alignEven 0) := ⟨rfl, Nat.lt_of_lt_of_le (by decide) (depth_of_valid h.cfg .rx).1⟩
    have hctx := (h.isr c hs).setCallback hh (by simp [hcb]) hcb'
    exact h.setContext (o := some { c with cb := .alignEven 0 }) (n := s.detCnt - 1) (fun x hx => by cases hx; exact hctx)
      (not_not.mp hzero) fun hb => by simp [h.booted_of_isr hs] at hb

theorem alignJudge_keeps (h : Inv s) (hs : s.isr = some c) (hh : c.handler = .xchIsr .rx) (hscan : scanning c.cb = true)
    (slot : Nat) (w0 w8 : Word) : Inv (alignJudge c slot w0 w8 s) := by
  unfold alignJudge
  split
  · split
    · rename_i hlt
      exact h.alignGoesOn hs hh hscan ⟨rfl, hlt⟩ rfl
    · exact h.alignReload (h.booted_of_isr hs) c _
  · exact (h.alignGoesOn hs hh hscan (cb := .alignRequest) rfl rfl).of_bare rfl

theorem alignStage_keeps (h : Inv s) (hs : s.isr = some c) (hh : c.handler = .xchIsr .rx) : BodyKeeps (alignStage c s) := by
  have hok := ((isrOk_xchIsr hh).mp (h.isr c hs)).callback
  unfold alignStage
  split
  · rename_i hcb
    exact (alignCount_keeps h hs hh hcb).bodyKeeps
  · rename_i slot hcb
    rw [hcb] at hok
    obtain ⟨w0, hread⟩ := readWord_wf (w := 0) h.rx.slots hok.2 (by decide)
    refine ⟨_, by unfold alignEven; rw [hread]; rfl, ?_⟩
    exact h.alignGoesOn hs hh (by rw [hcb]; rfl) (cb := .alignOdd slot w0) hok rfl
  · rename_i slot w0 hcb
    rw [hcb] at hok
    obtain ⟨w8, hread⟩ := readWord_wf (w := 8) h.rx.slots hok.2 (by decide)
    exact ⟨_, by unfold alignOdd; rw [hread]; rfl, alignJudge_keeps h hs hh (by rw [hcb]; rfl) slot w0 w8⟩
  · rename_i busy hcb
    have hb := h.booted_of_isr hs
    unfold alignFinish
    split
    · have hcounted : Inv { s with stats := { s.stats with phaseBusy := s.stats.phaseBusy + 1 } } := h.of_bare rfl
      exact Inv.bodyKeeps (hcounted.alignReload hb c _)
    · exact Inv.bodyKeeps (h.alignReload hb c _)
  all_goals exact h.refuse.bodyKeeps

end Align

theorem execAlignStep_keeps (h : Inv s) : Keeps (execAlignStep s) := by
  unfold execAlignStep
  split
  · rename_i c _ hs
    split
    · rename_i hh
      exact settle_keeps (alignStage_keeps h hs hh)
    · exact h.refuse.keeps
  · exact h.refuse.keeps

/-! ### FrameClockPhaseAdjuster and frame timer -/

section Timer

variable {p : Params} {f : FrameTimer}

theorem readPend_ok (h : FrameTimerOk p f) : f.readPend = .ok f.pend := if_neg h.pend

theorem frameTimerOk_post (h : FrameTimerOk p f) (dir : Nudge) : FrameTimerOk p (f.post dir) where
  pend := by cases dir <;> simp [FrameTimer.post, Nudge.code]
  armed _ := rfl
  top := h.top.imp_right fun ht => ⟨rfl, ht.2⟩

theorem frameTimerOk_tick (h : FrameTimerOk p f) : FrameTimerOk p f.tick := by
  rw [tick_eq]
  exact ⟨h.pend, h.armed, h.top⟩

/-- FT_ISR μ2 leaves FT_TOP nominal, or one off and armed for the restoring match (45_phase_adjust.md R203, R205). -/
theorem frameTimerOk_apply (h : FrameTimerOk p f) : FrameTimerOk p (f.apply p.nominalTop f.pend) where
  pend := by simp [FrameTimer.apply]
  armed hne := absurd rfl hne
  top := by
    by_cases h0 : f.pend = 0
    · exact .inl (by simp [FrameTimer.apply, nudgedTop, h0])
    · refine .inr ⟨(if_neg h0).trans (h.armed h0), ?_⟩
      have hcases : ∀ x : BitVec 2, x ≠ 0 → x ≠ 3 → x = 1 ∨ x = 2 := by decide
      rcases hcases f.pend h0 h.pend with h1 | h2
      · exact .inl (by simp [FrameTimer.apply, nudgedTop, h1])
      · exact .inr (by simp [FrameTimer.apply, nudgedTop, h2])

end Timer

theorem Inv.post (h : Inv s) (hb : s.poll.booted = true) (dir : Nudge) : Inv { s with ft := s.ft.post dir } :=
  h.setTimer (frameTimerOk_post h.timer dir) (by simp [hb])

/-- PHASE_REQUEST's one step in a state of the invariant: `Busy` with a request pending, else the request is posted. -/
theorem phaseStep_eq (h : FrameTimerOk s.cfg s.ft) (dir : Nudge) (deliver : State → Result → State) :
    phaseStep dir deliver s =
      .ok (if s.ft.pend ≠ 0 then deliver s .busy else deliver { s with ft := s.ft.post dir } (.ok .unit)) := by
  unfold phaseStep
  rw [readPend_ok h]
  by_cases hp : s.ft.pend ≠ 0
  · rw [if_pos hp]; exact if_pos hp
  · rw [if_neg hp]; exact if_neg hp

theorem Inv.answerAlign (h : Inv s) (hr : s.atRequest = true) (r : Result) : Inv (s.answerAlign r) := by
  unfold State.atRequest at hr
  unfold State.answerAlign
  split
  · rename_i c hs
    rw [hs] at hr
    have hcb : c.cb = .alignRequest := of_decide_eq_true hr
    have hin : c.cb ≠ .none := by simp [hcb]
    obtain ⟨d, hh⟩ := (h.isr c hs).handler_of_callback hin
    have hd : d = .rx := by
      have hok := ((isrOk_xchIsr hh).mp (h.isr c hs)).callback
      rw [hcb] at hok
      exact hok
    subst hd
    exact (h.observe _).alignGoesOn hs hh (by rw [hcb]; rfl) (cb := .alignFinish _) rfl rfl
  · exact h

theorem execPhaseRequest_keeps (h : Inv s) (hb : s.agent = .poll → s.poll.booted = true) (dir : Nudge) :
    Keeps (execPhaseRequest dir s) := by
  unfold execPhaseRequest
  split
  · rename_i ha
    have hpost := (h.post (hb ha) dir).complete (.ok .unit)
    have hbusy := h.complete .busy
    have hbody := phaseStep_eq (s := { s with primask := true }) h.timer dir State.complete
    by_cases hp : s.ft.pend ≠ 0
    · rw [if_pos hp, complete_setPrimask] at hbody
      exact settle_keeps (critical_keeps hbody hbusy)
    · rw [if_neg hp] at hbody
      have hposted := complete_setPrimask { s with ft := s.ft.post dir } true (.ok .unit)
      exact settle_keeps (critical_keeps (hbody.trans (congrArg Except.ok hposted)) hpost)
  · split
    · rename_i hr
      refine settle_keeps ⟨_, phaseStep_eq h.timer dir State.answerAlign, ?_⟩
      have hb' : s.poll.booted = true := by
        unfold State.atRequest at hr
        cases hs : s.isr with
        | none => rw [hs] at hr; cases hr
        | some c => exact h.booted_of_isr hs
      split
      · exact h.answerAlign hr _
      · exact (h.post hb' dir).answerAlign hr _
    · exact h.refuse.keeps
  · exact h.refuse.keeps

theorem execFtTick_keeps (h : Inv s) : Keeps (execFtTick s) := by
  have hticked : Inv { s with ft := s.ft.tick } := h.setTimer (frameTimerOk_tick h.timer) fun hb => by
    obtain ⟨-, -, -, hft, -⟩ := h.boot hb
    rw [tick_eq]
    exact hft
  refine byAgent_keeps h fun _ => ?_
  unfold ftTickStep
  split
  · exact (hticked.observe _).bodyKeeps
  · exact hticked.bodyKeeps

theorem ftIsrStep_keeps (h : Inv s) {c : IsrCtx} (hs : s.isr = some c) (hh : c.handler = .ftIsr) (hcb : c.cb = .none) :
    BodyKeeps (ftIsrStep c s) := by
  have hb := h.booted_of_isr hs
  have hquiet : scanningIn s.isr = false := by rw [hs]; simp [scanningIn, hcb, scanning]
  unfold ftIsrStep
  split
  · have hcleared : Inv { s with ft := { s.ft with matched := false } } :=
      h.setTimer ⟨h.timer.pend, h.timer.armed, h.timer.top⟩ (by simp [hb])
    exact Inv.bodyKeeps (hcleared.setIsr hs ((isrOk_ftIsr (c := { c with mu := 2 }) hh).mpr ⟨hcb, by simp, by simp⟩) rfl)
  · have happlied : Inv { s with ft := s.ft.apply s.cfg.nominalTop s.ft.pend } :=
      h.setTimer (frameTimerOk_apply h.timer) (by simp [hb])
    rw [readPend_ok h.timer]
    exact ⟨_, rfl, happlied.leaveHandler hquiet _ _⟩
  · exact h.refuse.bodyKeeps

theorem execFtIsr_keeps (h : Inv s) : Keeps (execFtIsr s) :=
  byHandler_keeps h fun _ hs hh hcb => ftIsrStep_keeps h hs hh hcb

/-! ### STATS_SNAPSHOT -/

theorem execStatsSnapshot_keeps (h : Inv s) : Keeps (execStatsSnapshot s) :=
  byAgent_keeps h fun _ => critical_keeps (congrArg Except.ok (complete_setPrimask s true _)) (h.complete _)

end Sys2Proof.Safety

/-! # The invariant under the realigner and steering operations

In a state of the invariant an operation meets no model fault and keeps the invariant: BitRealigner and
OscillatorSteering, the pulse's branches in the order of 42_steering.md. -/

namespace Sys2Proof.Safety

open Sys2Proof.Machine

variable {s : State}

/-! ### BitRealigner -/

section Realign

variable {p : Params} {r : Realigner}

theorem Inv.realigner (h : Inv s) {i : Nat} (hi : i < s.cfg.raCount) : ∃ r, s.realigners[i]? = some r :=
  ⟨_, List.getElem?_eq_getElem (h.realignerCount.symm ▸ hi)⟩

theorem realignerOk_set (hp : p.valid = true) (nBits : Half) : RealignerOk p (Realigner.set p nBits) := by
  obtain ⟨hlo, hhi⟩ := frameSize_of_valid hp
  have hmod : nBits.toNat % (p.f * 8) < p.f * 8 := Nat.mod_lt _ (by omega)
  refine ⟨?_, by simp [Realigner.set], fun j _ hj => by simp [Realigner.set, hj], 0, by simp [Realigner.set]⟩
  rw [Realigner.set, BitVec.toNat_ofNat]
  exact Nat.lt_of_le_of_lt (Nat.mod_le _ _) hmod

theorem shiftBytes_length (b : Nat) (carry : Byte) (inp : List Byte) : (shiftBytes b carry inp).1.length = inp.length := by
  induction inp generalizing carry with
  | nil => rfl
  | cons c cs ih => simp [shiftBytes, ih]

theorem shiftLeft_multiple (c : Byte) {m : Nat} (hm : m ≤ 8) : ∃ k, (c <<< m).toNat = k * 2 ^ m := by
  refine ⟨c.toNat % 2 ^ (8 - m), ?_⟩
  rw [BitVec.toNat_shiftLeft, Nat.shiftLeft_eq, ← Nat.mul_mod_mul_right, ← Nat.pow_add, Nat.sub_add_cancel hm]

/-- The carry out of a frame has only the bits that belong to the next byte (46_realigner.md R222). -/
theorem shiftBytes_carry (b : Nat) (carry : Byte) (inp : List Byte) (h : ∃ k, carry.toNat = k * 2 ^ (8 - b)) :
    ∃ k, (shiftBytes b carry inp).2.toNat = k * 2 ^ (8 - b) := by
  induction inp generalizing carry with
  | nil => exact h
  | cons c cs ih => exact ih _ (shiftLeft_multiple c (Nat.sub_le 8 b))

/-- The whole bytes of the offset lie within the frame. -/
theorem RealignerOk.overlap_lt (h : RealignerOk p r) : r.offset.toNat / 8 < p.f := by
  have := h.offset
  omega

theorem realignerOk_next (h : RealignerOk p r) {inp : List Byte} (hinp : inp.length = p.f) : RealignerOk p (r.next p.f inp) := by
  have hlt := h.overlap_lt
  have hdrop : ((r.buffer inp).drop p.f).length = r.offset.toNat / 8 := by
    simp only [Realigner.buffer, List.length_drop, List.length_append, List.length_take, shiftBytes_length, h.reframe, hinp]
    omega
  refine ⟨h.offset, ?_, fun j hlo hhi => ?_, shiftBytes_carry _ _ _ h.carry⟩
  · simp only [Realigner.next, List.length_append, hdrop, List.length_replicate]
    omega
  · simp only [Realigner.next] at hlo ⊢
    rw [List.getElem?_append_right (by omega), hdrop, List.getElem?_replicate, if_pos (by omega)]

end Realign

theorem frameOperand_length (h : Inv s) : s.frameOperand.length = s.cfg.f := by
  have hf := frameSize_of_valid h.cfg
  simp only [State.frameOperand, List.length_take, Vector.length_toList]
  omega

theorem execRaSetAlignment_keeps (h : Inv s) (n : BitVec 8) (bits : BitVec 16) : Keeps (execRaSetAlignment n bits s) := by
  unfold execRaSetAlignment
  split
  · rename_i hi
    obtain ⟨r, hr⟩ := h.realigner hi
    refine bySide_keeps h fun _ _ _ _ => ?_
    unfold setAlignmentStep
    rw [unitAt_some hr]
    exact ⟨_, rfl, (h.setRealigner (realignerOk_set h.cfg bits)).complete _⟩
  · exact h.refuse.keeps

theorem execRaRealignFrame_keeps (h : Inv s) (n : BitVec 8) : Keeps (execRaRealignFrame n s) := by
  unfold execRaRealignFrame
  split
  · rename_i hi
    obtain ⟨r, hr⟩ := h.realigner hi
    have hok := h.realigners _ r hr
    have hover : r.offset.toNat / 8 ≤ r.reframe.length := by rw [hok.reframe]; exact Nat.le_of_lt hok.overlap_lt
    refine bySide_keeps h fun _ _ _ _ => ?_
    unfold realignStep
    rw [unitAt_some hr]
    exact ⟨_, if_pos hover, (h.setRealigner (realignerOk_next hok (frameOperand_length h))).complete _⟩
  · exact h.refuse.keeps

/-! ### OscillatorSteering: the registers -/

section Steer

variable {p : Params} {st : Steering} {v : Servo}

theorem SteeringOk.enter (h : SteeringOk p st) {k : BitVec 3} (n : Word) (hk : k.toNat ≤ 4)
    (hmin : k = stCalMin ∨ k = stCalMax → st.minOffset.written = true) (hmax : k = stCalMax → st.maxOffset.written = true)
    (hdisc : k = stFreq ∨ k = stPhase → st.slope.written = true ∧ st.dacCenter.written = true) :
    SteeringOk p { st with state := k, count := n } :=
  { h with state := hk, calMin := hmin, calMax := hmax, discipline := hdisc }

theorem SteeringOk.setMin (h : SteeringOk p st) {r : Reg Word} (hr : r.written = true) :
    SteeringOk p { st with minOffset := r } :=
  { h with calMin := fun _ => hr }

theorem SteeringOk.setMax (h : SteeringOk p st) {r : Reg Word} (hr : r.written = true) :
    SteeringOk p { st with maxOffset := r } :=
  { h with calMax := fun _ => hr }

theorem SteeringOk.setCenter (h : SteeringOk p st) (c : Word) : SteeringOk p { st with dacCenter := Reg.of c } :=
  { h with
    discipline := fun hd => ⟨(h.discipline hd).1, rfl⟩
    hasCal := fun hc => ⟨(h.hasCal hc).1, rfl⟩ }

theorem SteeringOk.setSlope (h : SteeringOk p st) (c : Word) : SteeringOk p { st with slope := Reg.of c } :=
  { h with
    discipline := fun hd => ⟨rfl, (h.discipline hd).2⟩
    hasCal := fun hc => ⟨rfl, (h.hasCal hc).2⟩ }

theorem SteeringOk.setFlags (h : SteeringOk p st) {f : BitVec 2}
    (hf : isHasCal f = true → st.slope.written = true ∧ st.dacCenter.written = true) : SteeringOk p { st with flags := f } :=
  { h with hasCal := hf }

/-- DAC_VALUE is in 0..DAC_MAX wherever a pulse drives the DAC (10_state.md R32). -/
def Drivable (p : Params) (value : Word) : Prop :=
  p.dacMax < 2 ^ 31 → 0 ≤ signed32 value ∧ signed32 value ≤ p.dacMax

theorem SteeringOk.drive (h : SteeringOk p v.st) {value : Word} (hv : Drivable p value) :
    SteeringOk p (v.drive p value).st :=
  { h with dacRange := fun hm _ => hv hm }

theorem signed32_trunc32 {x : Int} (hlo : 0 ≤ x) (hhi : x < 2 ^ 31) : signed32 (trunc32 x) = x := by
  rw [signed32, trunc32, BitVec.toInt_ofInt]
  exact Int.bmod_eq_of_le (by omega) (by omega)

theorem drivable_zero (hp : p.valid = true) : Drivable p 0 := fun _ => ⟨by decide, dacMax_of_valid hp⟩

theorem drivable_trunc32 {x : Int} (hlo : 0 ≤ x) (hhi : x ≤ p.dacMax) : Drivable p (trunc32 x) := fun hm => by
  rw [signed32_trunc32 hlo (by omega)]
  exact ⟨hlo, hhi⟩

theorem drivable_clamp (hp : p.valid = true) (x : Int) : Drivable p (trunc32 (clampInt x 0 p.dacMax)) := by
  have hmax := dacMax_of_valid hp
  exact drivable_trunc32 (by unfold clampInt; omega) (by unfold clampInt; omega)

/-! ### OscillatorSteering: the entries (42_steering.md R157) -/

theorem steeringOk_enterInit (h : SteeringOk p v.st) : SteeringOk p (v.enterInit p).st :=
  h.enter _ (by decide) (fun hk => absurd hk (by decide)) (fun hk => absurd hk (by decide)) (fun hk => absurd hk (by decide))

theorem steeringOk_enterCalMin (hp : p.valid = true) (h : SteeringOk p v.st) : SteeringOk p (v.enterCalMin p).st := by
  have hset := (h.setMin (r := Reg.of 0) rfl).enter (k := stCalMin) (calCount p) (by decide) (fun _ => rfl)
    (fun hk => absurd hk (by decide)) (fun hk => absurd hk (by decide))
  exact SteeringOk.drive (v := { v with st := _ }) hset (drivable_zero hp)

theorem steeringOk_enterCalMax (hp : p.valid = true) (h : SteeringOk p v.st) (hmin : v.st.minOffset.written = true) :
    SteeringOk p (v.enterCalMax p).st := by
  have hset := (h.setMax (r := Reg.of 0) rfl).enter (k := stCalMax) (calCount p) (by decide) (fun _ => hmin)
    (fun _ => rfl) (fun hk => absurd hk (by decide))
  exact SteeringOk.drive (v := { v with st := _ }) hset (drivable_trunc32 (dacMax_of_valid hp) (Int.le_refl _))

theorem steeringOk_enterFreq (h : SteeringOk p v.st) (hd : v.st.slope.written = true ∧ v.st.dacCenter.written = true) :
    SteeringOk p (v.enterFreq p).st :=
  h.enter _ (by decide) (fun hk => absurd hk (by decide)) (fun hk => absurd hk (by decide)) (fun _ => hd)

theorem steeringOk_enterPhase (h : SteeringOk p v.st) (hd : v.st.slope.written = true ∧ v.st.dacCenter.written = true) :
    SteeringOk p v.enterPhase.st :=
  h.enter _ (by decide) (fun hk => absurd hk (by decide)) (fun hk => absurd hk (by decide)) (fun _ => hd)

/-! ### OscillatorSteering: the pulses -/

/-- A pulse that meets no fault and leaves the steering registers in order. -/
def PulseKeeps (p : Params) (e : Except Fault (Servo × Result)) : Prop := ∃ v r, e = .ok (v, r) ∧ SteeringOk p v.st

theorem steeringOk_initPulse (hp : p.valid = true) (h : SteeringOk p v.st) (ts : Word) : SteeringOk p (initPulse p ts v).st := by
  have hcounted : SteeringOk p { v.st with lastRef := ts, count := v.st.count - 1 } := { h with }
  unfold initPulse
  dsimp only
  split
  · split
    · rename_i hcal
      exact steeringOk_enterFreq (v := { v with st := _ }) hcounted (h.hasCal hcal)
    · exact steeringOk_enterCalMin (v := { v with st := _ }) hp hcounted
  · exact hcounted

/-- A calibration accumulator that holds a value holds one after the pulse. -/
theorem accumulate_ok (p : Params) (st : Steering) {acc : Reg Word} (hacc : acc.written = true) (offset : Int) :
    ∃ r, accumulate p st acc offset = .ok r ∧ r.written = true := by
  unfold accumulate
  split
  · rw [reg_read_written hacc]
    exact ⟨_, rfl, rfl⟩
  · exact ⟨acc, rfl, hacc⟩

theorem calMinPulse_keeps (hp : p.valid = true) (h : SteeringOk p v.st) (hs : v.st.state = stCalMin) (ts : Word) (offset : Int) :
    PulseKeeps p (calMinPulse p ts offset v) := by
  obtain ⟨acc, hacc, hw⟩ := accumulate_ok p (v.snap ts).st (h.calMin (.inl hs)) offset
  have hcounted : SteeringOk p { v.st with lastRef := ts, minOffset := acc, count := v.st.count - 1 } := { h.setMin hw with }
  have hread : accumulate p (v.snap ts).st (v.snap ts).st.minOffset offset = .ok acc := hacc
  refine ⟨_, _, by unfold calMinPulse; dsimp only; rw [hread]; rfl, ?_⟩
  split
  · exact steeringOk_enterCalMax (v := { v with st := _ }) hp hcounted hw
  · exact hcounted

theorem isHasCal_refused (f : BitVec 2) : isHasCal ((f ||| flagCalErr) &&& ~~~flagHasCal) = false := by revert f; decide

theorem steeringOk_calRefuse (h : SteeringOk p v.st) : SteeringOk p (calRefuse p v).st := by
  have hflags : SteeringOk p { v.st with flags := (v.st.flags ||| flagCalErr) &&& ~~~flagHasCal } :=
    h.setFlags fun hc => by rw [isHasCal_refused] at hc; cases hc
  exact steeringOk_enterInit (v := { v with st := _ }) hflags

theorem steeringOk_calAccept (hp : p.valid = true) (h : SteeringOk p v.st) (mn mx : Int) :
    SteeringOk p (calAccept p mn mx v).st := by
  have hset := (h.setSlope (calSlope p mn mx)).setCenter (calCenter p (signed32 (calSlope p mn mx)) mn)
  have hdriven := SteeringOk.drive (v := { v with st := _ }) hset
    (drivable_clamp hp (signed32 (calCenter p (signed32 (calSlope p mn mx)) mn)))
  exact steeringOk_enterFreq (v := { v with st := _ }) (hdriven.setFlags (f := v.st.flags ||| flagHasCal) fun _ => ⟨rfl, rfl⟩)
    ⟨rfl, rfl⟩

theorem finishCalibration_keeps (hp : p.valid = true) (h : SteeringOk p v.st) (hmin : v.st.minOffset.written = true)
    (hmax : v.st.maxOffset.written = true) : PulseKeeps p (finishCalibration p v) := by
  unfold finishCalibration
  rw [reg_read_written hmin, reg_read_written hmax]
  by_cases hc : signed32 v.st.minOffset.val < 0 ∧ 0 < signed32 v.st.maxOffset.val
  · exact ⟨_, _, if_pos hc, steeringOk_calAccept hp h _ _⟩
  · exact ⟨_, _, if_neg hc, steeringOk_calRefuse h⟩

theorem calMaxPulse_keeps (hp : p.valid = true) (h : SteeringOk p v.st) (hs : v.st.state = stCalMax) (ts : Word) (offset : Int) :
    PulseKeeps p (calMaxPulse p ts offset v) := by
  obtain ⟨acc, hacc, hw⟩ := accumulate_ok p (v.snap ts).st (h.calMax hs) offset
  have hcounted : SteeringOk p { v.st with lastRef := ts, maxOffset := acc, count := v.st.count - 1 } := { h.setMax hw with }
  have hread : accumulate p (v.snap ts).st (v.snap ts).st.maxOffset offset = .ok acc := hacc
  unfold calMaxPulse
  dsimp only
  rw [hread]
  dsimp only [bind, Except.bind]
  split
  · exact finishCalibration_keeps (v := { v with st := _ }) hp hcounted (h.calMin (.inr hs)) hw
  · exact ⟨_, _, rfl, hcounted⟩

/-- A correction with a calibrated servo. -/
theorem correct_ok (hp : p.valid = true) (h : SteeringOk p v.st)
    (hd : v.st.slope.written = true ∧ v.st.dacCenter.written = true) (offset : Int) :
    ∃ v', correct p offset v = .ok v' ∧ SteeringOk p v'.st ∧
      v'.st.slope.written = true ∧ v'.st.dacCenter.written = true := by
  unfold correct
  rw [reg_read_written hd.1, reg_read_written hd.2]
  exact ⟨_, rfl, SteeringOk.drive (v := { v with st := _ }) (h.setCenter _) (drivable_clamp hp _), hd.1, rfl⟩

theorem freqPulse_keeps (hp : p.valid = true) (h : SteeringOk p v.st) (hs : v.st.state = stFreq) (ts : Word) (offset : Int) :
    ∃ v', freqPulse p ts offset v = .ok v' ∧ SteeringOk p v'.st := by
  have hcounted : SteeringOk p { v.st with lastRef := ts, count := settleCount p offset v.st.count } := { h with }
  obtain ⟨v', hv', hok, hd⟩ := correct_ok (v := { v with st := _ }) hp hcounted (h.discipline (.inl hs)) offset
  refine ⟨if v'.st.count = 0 then v'.enterPhase else v', ?_, ?_⟩
  · unfold freqPulse
    exact congrArg (· >>= _) hv'
  · split
    · exact steeringOk_enterPhase hok hd
    · exact hok

theorem phasePulse_keeps (hp : p.valid = true) (h : SteeringOk p v.st) (hs : v.st.state = stPhase) (offset : Int) :
    ∃ v', phasePulse p offset v = .ok v' ∧ SteeringOk p v'.st := by
  have hsnapped : SteeringOk p { v.st with lastRef := v.st.lastRef + p.nominalInterval } := { h with }
  obtain ⟨v', hv', hok, hd⟩ := correct_ok (v := { v with st := _ }) hp hsnapped (h.discipline (.inr hs)) offset
  refine ⟨if p.phaseLossThresh < offset.natAbs then v'.enterFreq p else v', ?_, ?_⟩
  · unfold phasePulse
    exact congrArg (· >>= _) hv'
  · split
    · exact steeringOk_enterFreq hok hd
    · exact hok

theorem acceptedPulse_keeps (hp : p.valid = true) (h : SteeringOk p v.st) (ts : Word) : PulseKeeps p (acceptedPulse p ts v) := by
  unfold acceptedPulse
  dsimp only
  split
  · exact ⟨_, _, rfl, steeringOk_initPulse hp h ts⟩
  · rename_i hs
    exact calMinPulse_keeps hp h (BitVec.eq_of_toNat_eq hs) ts _
  · rename_i hs
    exact calMaxPulse_keeps hp h (BitVec.eq_of_toNat_eq hs) ts _
  · rename_i hs
    obtain ⟨v', hv', hok⟩ := freqPulse_keeps hp h (BitVec.eq_of_toNat_eq hs) ts (offsetOf p v.st ts)
    exact ⟨v', _, by rw [hv']; rfl, hok⟩
  · rename_i hs
    obtain ⟨v', hv', hok⟩ := phasePulse_keeps hp h (BitVec.eq_of_toNat_eq hs) (offsetOf p v.st ts)
    exact ⟨v', _, by rw [hv']; rfl, hok⟩
  · rename_i h0 h1 h2 h3 h4
    rw [imp_false] at h0 h1 h2 h3 h4
    have hstate := h.state
    omega

theorem steerPulse_keeps (hp : p.valid = true) (h : SteeringOk p v.st) (ts tick : Word) :
    PulseKeeps p (steerPulse p ts tick v) := by
  have hticked : SteeringOk p { v.st with lastTick := tick } := { h with }
  have hsnapped : SteeringOk p { v.st with lastTick := tick, lastRef := ts } := { h with }
  unfold steerPulse
  dsimp only
  split
  · exact acceptedPulse_keeps (v := { v with st := _ }) hp hticked ts
  · exact ⟨_, _, rfl, steeringOk_enterInit (v := { v with st := _ }) hsnapped⟩

end Steer

theorem Inv.endPulse (h : Inv s) {v : Servo} (hv : SteeringOk s.cfg v.st) (r : Result) : Inv (s.endPulse v r) := by
  have hset : Inv { s with steer := v.st, stats := v.stats } := (h.setSteering hv).of_bare rfl
  unfold State.endPulse
  dsimp only
  split
  · exact hset.complete r
  · exact hset.of_bare rfl

theorem execSteerPulse_keeps (h : Inv s) : Keeps (execSteerPulse s) := by
  refine byAgent_keeps h fun _ => ?_
  obtain ⟨v, r, hpulse, hv⟩ := steerPulse_keeps (v := { st := s.steer, stats := s.stats, dac := none }) h.cfg h.steering
    s.tsOperand s.tickOperand
  exact ⟨s.endPulse v r, by rw [steerStep, hpulse]; rfl, h.endPulse hv r⟩

end Sys2Proof.Safety

/-! # The invariant under every step

Every operation and every step without an operation word keeps the invariant and meets no model fault
(60_exceptions.md R246). -/

namespace Sys2Proof.Safety

open Sys2Proof.Machine

variable {s : State}

/-! ### Operations -/

/-- Every operation keeps the invariant, POLL issuing only once it has booted (70_reset_and_hazards.md R280). -/
theorem exec_keeps (h : Inv s) (hb : s.agent = .poll → s.poll.booted = true) (i : Instr) : Keeps (exec i s) := by
  cases i with
  | rbPut n => exact execRbPut_keeps h n
  | rbGet n => exact execRbGet_keeps h n
  | capCntTick => exact execCapCntTick_keeps h
  | capEdge kind => exact execCapEdge_keeps h kind
  | capIsr => exact execCapIsr_keeps h
  | capPoll => exact execCapPoll_keeps h
  | steerPulse => exact execSteerPulse_keeps h
  | xchStart => exact execXchStart_keeps h hb
  | dmaWord d => exact execDmaWord_keeps h d
  | xchIsr d => exact execXchIsr_keeps h d
  | alignStep => exact execAlignStep_keeps h
  | phaseRequest dir => exact execPhaseRequest_keeps h hb dir
  | ftTick => exact execFtTick_keeps h
  | ftIsr => exact execFtIsr_keeps h
  | raSetAlignment n bits => exact execRaSetAlignment_keeps h n bits
  | raRealignFrame n => exact execRaRealignFrame_keeps h n
  | statsSnapshot => exact execStatsSnapshot_keeps h

theorem runWord_keeps (h : Inv s) (hb : s.agent = .poll → s.poll.booted = true) (w : Word) : Keeps (runWord w s) := by
  unfold runWord
  split
  · exact exec_keeps h hb _
  · exact h.refuse.keeps

/-- POLL presents a word only once it has booted. -/
theorem booted_of_currentOp {e : Event} {o : IssuedOp} (h : s.currentOp e = some (.poll, o)) : s.poll.booted = true := by
  cases e with
  | poll =>
    unfold State.currentOp at h
    dsimp only at h
    split at h
    · rename_i hm
      exact (Bool.and_eq_true_iff.mp hm).2
    · cases h
  | isr => simp [State.currentOp, Option.bind_eq_some_iff] at h
  | _ => simp [State.currentOp] at h

/-! ### Steps without an operation word -/

theorem Inv.bootStep (h : Inv s) : Inv s.boot :=
  { h with
    capture := ⟨h.capture.ldr, h.capture.ldf, h.capture.newR, h.capture.newF⟩
    timer := ⟨h.timer.pend, h.timer.armed, .inl rfl⟩
    isr := fun c hc => (h.isr c hc).mono rfl id id fun _ _ => (stageOk_congr rfl rfl).mpr
    stage := (stageOk_congr rfl rfl).mpr h.stage
    boot := nofun }

theorem Inv.pollOther (h : Inv s) : Inv s.pollOther := by
  rcases pollOther_cases s with ⟨hd, ht⟩ | ⟨-, ht⟩ | ht <;> rw [ht]
  · exact Inv.complete (s := { s with agent := .poll, poll := { s.poll with hold := none } }) (h.of_bare rfl) hd.result
  · exact h.bootStep
  · exact h

/-- The transmit callback's store is in range: its slot is the one XCH_ISR μ2 recorded (43_frame_exchange.md R177). -/
theorem fillSlot_keeps (h : Inv s) {c : IsrCtx} (hs : s.isr = some c) {st : RbStage} (hcb : c.cb = .external st) (w : BitVec 4)
    (v : Word) : BodyKeeps (s.fillSlot c w v) := by
  unfold State.fillSlot
  split
  · rename_i hh
    have hc := (isrOk_xchIsr hh).mp (h.isr c hs)
    obtain ⟨hmu, hend⟩ := hc.atCallback (by simp [hcb])
    obtain ⟨slot, -, hm⟩ := writeWord_ok h.tx.slots (hc.done (by omega) hend) w.isLt v
    rw [hm]
    have hstored := h.setExchange (d := .tx) (exchangeOk_slots h.tx (writeWord_wf h.tx.slots hm)) (h.xchIe_of_unbooted .tx)
    exact ⟨_, rfl, hstored.advance⟩
  · exact h.refuse.bodyKeeps

theorem Inv.endCallback (h : Inv s) {c : IsrCtx} (hs : s.isr = some c) {st : RbStage} (hcb : c.cb = .external st) :
    Inv (s.endCallback c) := by
  refine h.advance.leaveExchange ?_ c
  obtain ⟨a, ha⟩ | ha | ⟨ha, hx⟩ | ⟨c', st', ha, hc', hcb'⟩ := issuer_cases s
  · rw [advance_of_hw ha, hs]; simp [scanningIn, hcb, scanning]
  · rw [advance_of_poll ha]; simp [hs, scanningIn, hcb, scanning]
  · rw [advance_of_handler ha hx, hs]; simp [scanningIn, hcb, scanning]
  · rw [advance_of_callback ha hc' hcb']; rfl

theorem isrOther_keeps (h : Inv s) (hn : s.currentOp .isr = none) : BodyKeeps s.isrOther := by
  unfold State.isrOther
  split
  · exact h.bodyKeeps
  · rename_i c hs
    obtain ⟨st, hcb⟩ := isrOp_none (s := s) (c := c) (by simpa [State.currentOp, hs] using hn)
    have hissued : Inv { s with agent := .isr } := h.of_bare rfl
    split
    · exact fillSlot_keeps hissued hs hcb _ _
    · exact (hissued.endCallback hs hcb).bodyKeeps
    · exact h.bodyKeeps

/-- A handler's context at its entry. -/
theorem isrOk_enter (s : State) (hd : Handler) : IsrOk s (IsrCtx.enter hd) := by
  cases hd with
  | capIsr => exact (isrOk_capIsr rfl).mpr ⟨rfl, by decide, by decide, nofun, nofun⟩
  | xchIsr d =>
    refine (isrOk_xchIsr rfl).mpr ⟨?_, ?_, ?_, ?_, fun hne => absurd rfl hne, trivial⟩ <;> simp [IsrCtx.enter, isBuff]
  | ftIsr => exact (isrOk_ftIsr rfl).mpr ⟨rfl, by decide, by decide⟩

/-- Before the boot step no source is pending (70_reset_and_hazards.md R273). -/
theorem pending_of_unbooted (h : Inv s) (hb : s.poll.booted = false) (hd : Handler) : s.pending hd = false := by
  obtain ⟨hcap, hrx, htx, hft, -⟩ := h.boot hb
  cases hd with
  | capIsr => simp [State.pending, hcap]
  | xchIsr d => cases d <;> simp [State.pending, State.xch, hrx, htx]
  | ftIsr => simp [State.pending, hft]

theorem Inv.dispatch (h : Inv s) (hd : Handler) : Inv (s.dispatch hd) := by
  unfold State.dispatch
  split
  · rename_i hmay
    simp only [State.mayDispatch, Bool.and_eq_true, Option.isNone_iff_eq_none] at hmay
    obtain ⟨⟨hnone, -⟩, hpend⟩ := hmay
    have hcount := detectorOk_iff.mp h.detector
    rw [hnone] at hcount
    refine h.setContext (o := some (IsrCtx.enter hd)) (fun c hc => ?_) hcount fun hb => ?_
    · cases hc; exact isrOk_enter s hd
    · rw [pending_of_unbooted h hb hd] at hpend
      cases hpend
  · exact h

theorem Inv.dacReady (h : Inv s) : Inv s.dacReady := by
  unfold State.dacReady
  split
  · exact h.of_bare rfl
  · exact h

theorem otherStep_keeps (h : Inv s) {e : Event} (hn : s.currentOp e = none) : BodyKeeps (s.otherStep e) := by
  cases e with
  | hw a o => exact h.bodyKeeps
  | poll => exact h.pollOther.bodyKeeps
  | isr => exact isrOther_keeps h hn
  | dispatch hd => exact (h.dispatch hd).bodyKeeps
  | dacReady => exact h.dacReady.bodyKeeps

/-! ### Steps -/

theorem stepEvent_keeps (h : Inv s) (e : Event) : Keeps (stepEvent e s) := by
  unfold stepEvent
  split
  · rename_i a o hop
    refine runWord_keeps (h.issue a o) (fun ha => ?_) o.word
    obtain rfl : a = .poll := ha
    exact booted_of_currentOp (s := s) hop
  · rename_i hn
    exact settle_keeps (otherStep_keeps h hn)

/-- From a state of the invariant a step answers a state of the invariant. -/
theorem step_keeps (h : Inv s) : Keeps (step s) := by
  unfold step
  rw [h.faults, h.cfg]
  exact stepEvent_keeps h.takeEvent s.nextEvent

end Sys2Proof.Safety

namespace Sys2Proof.Statements

open Sys2Proof.Machine Sys2Proof.Safety

/-- Settles O17: the state a step answers is the one of `step_keeps`. -/
theorem stepKeepsInv : Obligations.StepKeepsInv := by
  intro s t h hstep
  obtain ⟨t', ht', hinv⟩ := step_keeps h
  obtain rfl : t' = t := Host.Outcome.next.inj (ht'.symm.trans hstep)
  exact hinv

end Sys2Proof.Statements

/-! # Encoding: decode and encode are inverse, and what they leave out is refused

The decoder on the three fields of a word (30_encoding.md R81–R87), and which words the opcode map admits. -/

namespace Sys2Proof

open Sys2Proof.Laws

/-! ### The fields of a word -/

@[simp] theorem opcField_opWord (opc inst : Byte) (imm : Half) : opcField (opWord opc inst imm) = opc :=
  (opWord_fields opc inst imm).1

@[simp] theorem instField_opWord (opc inst : Byte) (imm : Half) : instField (opWord opc inst imm) = inst :=
  (opWord_fields opc inst imm).2.1

@[simp] theorem immField_opWord (opc inst : Byte) (imm : Half) : immField (opWord opc inst imm) = imm :=
  (opWord_fields opc inst imm).2.2

/-- The three fields are all of a word (30_encoding.md R81). -/
theorem opWord_of_fields (w : Word) : opWord (opcField w) (instField w) (immField w) = w := by
  apply BitVec.eq_of_getLsbD_eq
  intro k hk
  rw [opWord_bit, opcField, instField, immField]
  simp only [BitVec.getLsbD_extractLsb']
  split
  · simp [*]
  · split
    · rw [show 16 + (k - 16) = k by omega]
      simp [*]
    · rw [show 24 + (k - 16 - 8) = k by omega, decide_eq_true (by omega : k - 16 - 8 < 8), Bool.true_and]

/-- The `INST` field of an operation's word (30_encoding.md R83). -/
def tableInst : Instr → Byte
  | .rbPut i => i
  | .rbGet i => i
  | .capEdge kind => kind.code
  | .dmaWord d => d.code
  | .xchIsr d => d.code
  | .raSetAlignment i _ => i
  | .raRealignFrame i => i
  | _ => 0

/-- The `IMM` field of an operation's word (30_encoding.md R84). -/
def tableImm : Instr → Half
  | .phaseRequest dir => dir.code.setWidth 16
  | .raSetAlignment _ nBits => nBits
  | _ => 0

/-- The word of an operation is its row of 30_encoding.md R85, field by field. -/
theorem encode_eq_opWord (i : Instr) : encode i = opWord (tableOpc i) (tableInst i) (tableImm i) := by
  cases i <;> rfl

/-! ### The decoder's field rules -/

section FieldRules

variable {w : Word} {i j i0 i1 : Instr}

/-- A check of the decoder passes exactly where its condition holds. -/
theorem ite_error_eq_ok_iff {c : Prop} [Decidable c] {x : Except DecodeError Instr} {e : DecodeError} :
    (if c then x else .error e) = .ok j ↔ c ∧ x = .ok j := by
  by_cases hc : c <;> simp [hc]

theorem decodeImm0_eq_ok_iff : decodeImm0 w i = .ok j ↔ immField w = 0 ∧ i = j := by
  rw [decodeImm0, ite_error_eq_ok_iff, Except.ok.injEq]

theorem decodeBare_eq_ok_iff : decodeBare w i = .ok j ↔ instField w = 0 ∧ immField w = 0 ∧ i = j := by
  rw [decodeBare, ite_error_eq_ok_iff, decodeImm0_eq_ok_iff]

/-- A byte with no bit above bit 0 is 0 or 1. -/
theorem extractLsb'_one_eq_zero_iff (b : Byte) : b.extractLsb' 1 7 = 0 ↔ b = 0 ∨ b = 1 := by
  revert b
  decide

theorem decodeSel_eq_ok_iff :
    decodeSel w i0 i1 = .ok j ↔ immField w = 0 ∧ (instField w = 0 ∧ i0 = j ∨ instField w = 1 ∧ i1 = j) := by
  rw [decodeSel, ite_error_eq_ok_iff, decodeImm0_eq_ok_iff, extractLsb'_one_eq_zero_iff]
  by_cases h0 : instField w = 0
  · simp only [h0, true_and, if_true, (by decide : ¬ (0 : Byte) = 1), false_and, or_false]
  · simp only [h0, false_or, false_and, if_false]
    exact and_left_comm

/-- The `dir` of PHASE_REQUEST has the codes 1 and 2 (30_encoding.md R84). -/
theorem exists_nudge_iff {p : Half → Nudge → Prop} :
    (∃ dir : Nudge, p (dir.code.setWidth 16) dir) ↔ p 1 .increase ∨ p 2 .decrease :=
  ⟨fun ⟨dir, h⟩ => by cases dir with | increase => exact .inl h | decrease => exact .inr h,
    fun h => h.elim (fun h => ⟨.increase, h⟩) (fun h => ⟨.decrease, h⟩)⟩

theorem decodePhaseRequest_eq_ok_iff :
    decodePhaseRequest w = .ok j ↔
      instField w = 0 ∧ ∃ dir : Nudge, immField w = dir.code.setWidth 16 ∧ .phaseRequest dir = j := by
  rw [decodePhaseRequest, ite_error_eq_ok_iff, ite_error_eq_ok_iff,
    exists_nudge_iff (p := fun imm dir => immField w = imm ∧ .phaseRequest dir = j)]
  by_cases h1 : immField w = 1
  · simp [h1]
  · rw [if_neg h1, ite_error_eq_ok_iff, Except.ok.injEq]
    by_cases h2 : immField w = 2 <;> simp only [h1, h2] <;> simp

end FieldRules

end Sys2Proof

namespace Sys2Proof.Statements

open Sys2Proof.Laws Sys2Proof.Machine

/-! ### decode and encode are inverse -/

/-- Settles O1: each row of the map, by the field rule its decoder follows. -/
theorem decodeEncode : Obligations.DecodeEncode := by
  intro i
  cases i with
  | rbPut n | rbGet n | raRealignFrame n =>
    simp [encode, decode, decodeImm0_eq_ok_iff]
  | capCntTick | capIsr | capPoll | steerPulse | xchStart | alignStep | ftTick | ftIsr | statsSnapshot =>
    simp [encode, decode, decodeBare_eq_ok_iff]
  | capEdge kind => cases kind <;> simp [encode, decode, decodeSel_eq_ok_iff, EdgeKind.code]
  | dmaWord d | xchIsr d => cases d <;> simp [encode, decode, decodeSel_eq_ok_iff, Dir.code]
  | phaseRequest dir => simp [encode, decode, decodePhaseRequest_eq_ok_iff]
  | raSetAlignment n nBits => simp [encode, decode]

/-- An accepted word carries the three fields of its operation's row. -/
theorem fields_of_decode {w : Word} {i : Instr} (h : decode w = .ok i) :
    opcField w = tableOpc i ∧ instField w = tableInst i ∧ immField w = tableImm i := by
  unfold decode at h
  split at h
  case h_1 hopc | h_2 hopc | h_16 hopc =>
    obtain ⟨himm, rfl⟩ := decodeImm0_eq_ok_iff.mp h
    exact ⟨BitVec.eq_of_toNat_eq hopc, rfl, himm⟩
  case h_4 hopc | h_9 hopc | h_10 hopc =>
    obtain ⟨himm, ⟨hinst, rfl⟩ | ⟨hinst, rfl⟩⟩ := decodeSel_eq_ok_iff.mp h <;>
      exact ⟨BitVec.eq_of_toNat_eq hopc, hinst, himm⟩
  case h_12 hopc =>
    obtain ⟨hinst, dir, himm, rfl⟩ := decodePhaseRequest_eq_ok_iff.mp h
    exact ⟨BitVec.eq_of_toNat_eq hopc, hinst, himm⟩
  case h_15 hopc =>
    obtain rfl := Except.ok.inj h
    exact ⟨BitVec.eq_of_toNat_eq hopc, rfl, rfl⟩
  case h_18 => split at h <;> cases h
  all_goals
    rename_i hopc
    obtain ⟨hinst, himm, rfl⟩ := decodeBare_eq_ok_iff.mp h
    exact ⟨BitVec.eq_of_toNat_eq hopc, hinst, himm⟩

/-- Settles O2: an accepted word is put together from the fields of its operation's row. -/
theorem encodeDecode : Obligations.EncodeDecode := by
  intro w i h
  obtain ⟨hopc, hinst, himm⟩ := fields_of_decode h
  rw [encode_eq_opWord, ← hopc, ← hinst, ← himm, opWord_of_fields]

theorem decode_eq_ok_iff {w : Word} {i : Instr} : decode w = .ok i ↔ encode i = w :=
  ⟨encodeDecode w i, fun h => h ▸ decodeEncode i⟩

/-- Settles O3: each word is the word of its operation. -/
theorem decodeVectors : Obligations.DecodeVectors := by
  simp only [Obligations.DecodeVectors, decode_eq_ok_iff]
  decide

/-! ### The words of the opcode map -/

/-- An operation's word is in the map exactly where `INST` is in range (30_encoding.md R83). -/
theorem legal_encode_iff (p : Params) (i : Instr) : Legal p (encode i) ↔ i.wellFormed p = true := by
  have hfields : ∀ opc inst imm, (opWord opc inst imm).extractLsb' 24 8 = opc ∧
      (opWord opc inst imm).extractLsb' 16 8 = inst ∧ (opWord opc inst imm).extractLsb' 0 16 = imm := opWord_fields
  unfold Legal
  cases i with
  | rbPut n | rbGet n | raSetAlignment n nBits | raRealignFrame n => simp [encode, hfields, Instr.wellFormed]
  | capEdge kind => cases kind <;> simp [encode, hfields, Instr.wellFormed, EdgeKind.code]
  | dmaWord d | xchIsr d => cases d <;> simp [encode, hfields, Instr.wellFormed, Dir.code]
  | phaseRequest dir => cases dir <;> simp [encode, hfields, Instr.wellFormed, Nudge.code]
  | _ => simp [encode, hfields, Instr.wellFormed]

theorem legal_of_decode {w : Word} {i : Instr} (p : Params) (h : decode w = .ok i) :
    Legal p w ↔ i.wellFormed p = true := by
  rw [← encodeDecode w i h, legal_encode_iff]

/-- A word of the map decodes. -/
theorem exists_decode_of_legal {p : Params} {w : Word} (h : Legal p w) : ∃ i, decode w = .ok i := by
  unfold Legal at h
  split at h <;> rename_i hopc <;> simp only [decode, opcField, hopc]
  case h_1 | h_2 | h_16 => exact ⟨_, decodeImm0_eq_ok_iff.mpr ⟨h.2, rfl⟩⟩
  case h_4 | h_9 | h_10 =>
    obtain ⟨hinst | hinst, himm⟩ := h
    · exact ⟨_, decodeSel_eq_ok_iff.mpr ⟨himm, .inl ⟨hinst, rfl⟩⟩⟩
    · exact ⟨_, decodeSel_eq_ok_iff.mpr ⟨himm, .inr ⟨hinst, rfl⟩⟩⟩
  case h_12 =>
    obtain ⟨hinst, himm | himm⟩ := h
    · exact ⟨_, decodePhaseRequest_eq_ok_iff.mpr ⟨hinst, .increase, himm, rfl⟩⟩
    · exact ⟨_, decodePhaseRequest_eq_ok_iff.mpr ⟨hinst, .decrease, himm, rfl⟩⟩
  case h_15 => exact ⟨_, rfl⟩
  case h_18 => exact h.elim
  all_goals exact ⟨_, decodeBare_eq_ok_iff.mpr ⟨h.1, h.2, rfl⟩⟩

end Sys2Proof.Statements

namespace Sys2Proof.Machine

open Sys2Proof.Statements

/-! ### Refused operations -/

variable {s : State}

theorem runWord_of_decode {w : Word} {i : Instr} (h : decode w = .ok i) : runWord w s = exec i s := by
  simp [runWord, h]

theorem runWord_of_not_decode {w : Word} (h : ∀ i, decode w ≠ .ok i) : runWord w s = .next s.refuse := by
  unfold runWord
  split
  · exact absurd ‹_› (h _)
  · rfl

/-- An operation with `INST` out of range is refused (30_encoding.md R87). -/
theorem exec_of_not_wellFormed {i : Instr} (h : i.wellFormed s.cfg = false) : exec i s = .next s.refuse := by
  cases i with
  | rbPut n | rbGet n | raSetAlignment n nBits | raRealignFrame n => exact if_neg (of_decide_eq_false h)
  | _ => cases h

/-- An operation on a ring or realigner for whose side the issuer does not act is refused, in range or not. -/
theorem ite_bySide_other {c : Prop} [Decidable c] {side : Option Ctx} (f : State → Except Fault State)
    (h : s.actsFor side = false) : (if c then bySide side f s else .next s.refuse) = .next s.refuse := by
  split
  · exact bySide_other f h
  · rfl

/-- Nobody acts for the declared side: every operation on a ring or a realigner is refused. -/
theorem exec_of_onInstance {i : Instr} (hi : OnInstance i) (h : ∀ side, s.actsFor side = false) :
    exec i s = .next s.refuse := by
  obtain ⟨n, m, rfl | rfl | rfl | rfl⟩ := hi <;> exact ite_bySide_other _ (h _)

theorem actsFor_of_not_namedSide {side : Option Ctx} (h : ¬ NamedSide s.agent side) : s.actsFor side = false := by
  refine Bool.eq_false_iff.mpr fun hact => h ?_
  rcases actsFor_cases hact with ⟨ha, hside⟩ | ⟨ha, hside, -⟩
  · exact .inl ⟨ha, hside⟩
  · exact .inr ⟨ha, hside⟩

/-- Outside an external receive callback the interrupt context acts for no side (43_frame_exchange.md R177). -/
theorem actsFor_of_not_receive (ha : s.agent = .isr)
    (h : ∀ c, s.isr = some c → c.handler ≠ .xchIsr .rx ∨ ∀ st, c.cb ≠ .external st) (side : Option Ctx) :
    s.actsFor side = false := by
  refine Bool.eq_false_iff.mpr fun hact => ?_
  rcases actsFor_cases hact with ⟨hpoll, -⟩ | ⟨-, -, hrx⟩
  · cases ha.symm.trans hpoll
  · obtain ⟨c, st, hc, hh, hcb⟩ := inReceive_cases hrx
    rcases h c hc with hne | hne
    · exact hne hh
    · exact hne st hcb

/-- A handler's word is refused where that handler does not step (30_encoding.md R86, R89). -/
theorem byHandler_other {hd : Handler} (f : IsrCtx → State → Except Fault State)
    (h : s.agent = .isr → ∀ c, s.isr = some c → c.handler ≠ hd ∨ c.cb ≠ .none) :
    byHandler hd f s = .next s.refuse := by
  unfold byHandler
  split
  · rename_i c ha hc
    exact if_neg (not_and_or.mpr (h ha c hc))
  · rfl

/-- ALIGN_STEP is refused where the receive callback is at none of its steps (44_alignment.md R190). -/
theorem execAlignStep_other
    (h : s.agent = .isr → ∀ c, s.isr = some c →
      c.handler ≠ .xchIsr .rx ∨ c.cb = .none ∨ c.cb = .alignRequest ∨ ∃ st, c.cb = .external st) :
    execAlignStep s = .next s.refuse := by
  unfold execAlignStep
  split
  · rename_i c ha hc
    rcases h ha c hc with hh | hcb | hcb | ⟨st, hcb⟩
    · exact if_neg hh
    all_goals simp [alignStage, hcb]
  · rfl

/-- PHASE_REQUEST is refused from a hardware agent, and from the interrupt context where ALIGN_STEP is not at its request. -/
theorem execPhaseRequest_other (dir : Nudge) (hp : s.agent ≠ .poll)
    (h : s.agent = .isr → ∀ c, s.isr = some c → c.cb ≠ .alignRequest) :
    execPhaseRequest dir s = .next s.refuse := by
  unfold execPhaseRequest
  split
  · rename_i ha
    exact absurd ha hp
  · rename_i ha
    refine if_neg (Bool.eq_false_iff.mp ?_)
    unfold State.atRequest
    split
    · exact decide_eq_false (h ha _ ‹_›)
    · rfl
  · rfl

end Sys2Proof.Machine

namespace Sys2Proof.Statements

open Sys2Proof.Machine

/-- Settles O4: a word decodes to a well-formed operation exactly where the map has it. -/
theorem illegalWordRefused : Obligations.IllegalWordRefused := by
  intro s w
  refine ⟨fun hno => ?_, fun hyes => ?_⟩
  · have hwf : ∀ i, decode w = .ok i → i.wellFormed s.cfg = false := fun i h =>
      Bool.eq_false_iff.mpr (mt (legal_of_decode s.cfg h).mpr hno)
    refine ⟨hwf, ?_⟩
    by_cases hd : ∃ i, decode w = .ok i
    · obtain ⟨i, hi⟩ := hd
      exact (runWord_of_decode hi).trans (exec_of_not_wellFormed (hwf i hi))
    · exact runWord_of_not_decode (not_exists.mp hd)
  · obtain ⟨i, hi⟩ := exists_decode_of_legal hyes
    exact ⟨i, hi, (legal_of_decode s.cfg hi).mp hyes, runWord_of_decode hi⟩

/-- An operation another agent issues than the agent column of 30_encoding.md R85 names is refused (R89). -/
theorem exec_of_not_namedAgent {s : State} {i : Instr} (h : ¬ NamedAgent s.cfg s.agent i) :
    exec i s = .next s.refuse := by
  cases i with
  | rbPut n | rbGet n | raSetAlignment n nBits | raRealignFrame n =>
    exact ite_bySide_other _ (actsFor_of_not_namedSide h)
  | capCntTick =>
    change execCapCntTick s = _
    rw [execCapCntTick, byAgent_other _ h]
  | capEdge kind =>
    change execCapEdge kind s = _
    rw [execCapEdge, byAgent_other _ h]
  | capPoll | steerPulse | xchStart | ftTick | statsSnapshot => exact byAgent_other _ h
  | dmaWord d => cases d <;> exact byAgent_other _ h
  | capIsr | xchIsr d | ftIsr => exact byHandler_other _ fun ha => absurd ha h
  | alignStep => exact execAlignStep_other fun ha => absurd ha h
  | phaseRequest dir =>
    obtain ⟨hisr, hpoll⟩ := not_or.mp h
    exact execPhaseRequest_other dir hpoll fun ha => absurd ha hisr

/-- Settles O5: the agent column, and the interrupt context acting for no side outside a receive callback. -/
theorem wrongAgentRefused : Obligations.WrongAgentRefused :=
  ⟨fun _ _ h => exec_of_not_namedAgent h, fun _ _ ha hi h => exec_of_onInstance hi (actsFor_of_not_receive ha h)⟩

/-- Settles O6: each word by the control point its operation asks for. -/
theorem handlerWordsElsewhereRefused : Obligations.HandlerWordsElsewhereRefused := by
  intro s ha
  refine ⟨fun h hno => ?_, fun hno => execAlignStep_other fun _ => hno, fun dir hno => ?_⟩
  · cases h with
    | capIsr | xchIsr d | ftIsr => exact byHandler_other _ fun _ => hno
  · exact execPhaseRequest_other dir (fun hp => nomatch ha.symm.trans hp) fun _ => hno

end Sys2Proof.Statements

/-! # The elements of a ring

What the three writes of RB_PUT and RB_GET do to a ring read as a queue (40_ring_buffer.md R104, R106). -/

namespace Sys2Proof.Safety

open Sys2Proof.Machine

variable {n : Nat} {r : Ring}

/-! ### Occupancy -/

theorem occupancy_le (n : Nat) (r : Ring) : occupancy n r ≤ n := Nat.lt_succ_iff.mp (Nat.mod_lt _ (Nat.succ_pos n))

theorem occupancy_eq_ahead (h : RingOk n r) : occupancy n r = ahead n r.rd r.wr := ahead_eq_mod h.rd h.wr

/-- The write cursor is the occupancy ahead of the read cursor. -/
theorem rd_add_occupancy (h : RingOk n r) : (r.rd + occupancy n r) % (n + 1) = r.wr := by
  have hwr := h.wr
  have hrd := h.rd
  rw [occupancy_eq_ahead h]
  unfold ahead
  split
  · rw [Nat.add_sub_of_le ‹_›]
    exact Nat.mod_eq_of_lt (by omega)
  · rw [show r.rd + (r.wr + (n + 1) - r.rd) = r.wr + (n + 1) by omega, Nat.add_mod_right]
    exact Nat.mod_eq_of_lt (by omega)

/-- No slot that holds an element is the one at the write cursor. -/
theorem rd_add_ne_wr (h : RingOk n r) {k : Nat} (hk : k < occupancy n r) : (r.rd + k) % (n + 1) ≠ r.wr := by
  have hle := occupancy_le n r
  rw [← rd_add_occupancy h]
  intro he
  have hmod : k % (n + 1) = occupancy n r % (n + 1) := Nat.ModEq.add_left_cancel' r.rd he
  rw [Nat.mod_eq_of_lt (by omega), Nat.mod_eq_of_lt (by omega)] at hmod
  omega

theorem occupancy_of_full (h : RingOk n r) (hfull : nextCursor n r.wr = r.rd) : occupancy n r = n := by
  have hwr := h.wr
  rw [occupancy_eq_ahead h, ← hfull, nextCursor_of_le hwr]
  unfold ahead
  split_ifs <;> omega

theorem occupancy_of_empty (h : RingOk n r) (hempty : r.rd = r.wr) : occupancy n r = 0 := by
  simp [occupancy_eq_ahead h, ahead, hempty]

theorem occupancy_publishWr (h : RingOk n r) (hfree : nextCursor n r.wr ≠ r.rd) :
    occupancy n (publishWr n r) = occupancy n r + 1 := by
  have hwr := h.wr
  have hrd := h.rd
  have hnext : occupancy n (publishWr n r) = ahead n r.rd (nextCursor n r.wr) := ahead_eq_mod hrd (nextCursor_le n r.wr)
  rw [hnext, occupancy_eq_ahead h]
  rw [nextCursor_of_le hwr] at hfree ⊢
  unfold ahead
  split_ifs at hfree ⊢ <;> omega

theorem occupancy_releaseRd (h : RingOk n r) (hne : r.rd ≠ r.wr) : occupancy n r = occupancy n (releaseRd n r) + 1 := by
  have hwr := h.wr
  have hrd := h.rd
  have hnext : occupancy n (releaseRd n r) = ahead n (nextCursor n r.rd) r.wr := ahead_eq_mod (nextCursor_le n r.rd) hwr
  rw [hnext, occupancy_eq_ahead h, nextCursor_of_le hrd]
  unfold ahead
  split_ifs <;> omega

/-! ### The queue -/

theorem length_contents (n : Nat) (r : Ring) : (contents n r).length = occupancy n r := by simp [contents]

/-- RB_PUT μ2 stores where no element is. -/
theorem contents_storeElem (h : RingOk n r) (v : Nat) : contents n (storeElem r v) = contents n r := by
  refine List.map_congr_left fun k hk => ?_
  have hne := rd_add_ne_wr h (List.mem_range.mp hk)
  simp [storeElem, List.getElem?_set_ne hne.symm]

/-- RB_PUT μ3 appends the element in slot RB_WR. -/
theorem contents_publishWr (h : RingOk n r) (hfree : nextCursor n r.wr ≠ r.rd) {c : Reg Nat} (hc : r.buf[r.wr]? = some c) :
    contents n (publishWr n r) = contents n r ++ [c.val] := by
  have hlast : r.buf[(r.rd + occupancy n r) % (n + 1)]? = some c := by rw [rd_add_occupancy h, hc]
  rw [contents, occupancy_publishWr h hfree, List.range_succ, List.map_append]
  simp [contents, publishWr, hlast]

/-- RB_GET μ3 removes the element in slot RB_RD, the oldest one. -/
theorem contents_releaseRd (h : RingOk n r) (hne : r.rd ≠ r.wr) {c : Reg Nat} (hc : r.buf[r.rd]? = some c) :
    contents n r = c.val :: contents n (releaseRd n r) := by
  have hfirst : r.buf[r.rd % (n + 1)]? = some c := by rw [Nat.mod_eq_of_lt (Nat.lt_succ_of_le h.rd), hc]
  have hshift : ∀ k, (r.rd + (k + 1)) % (n + 1) = (nextCursor n r.rd + k) % (n + 1) := fun k => by
    rw [nextCursor, Nat.mod_add_mod, Nat.add_right_comm, Nat.add_assoc]
  rw [contents, occupancy_releaseRd h hne, List.range_succ_eq_map]
  simp [contents, releaseRd, hfirst, hshift]

end Sys2Proof.Safety

/-! # RB_PUT and RB_GET: their micro-steps

Each micro-step for the declared side of an existing ring (40_ring_buffer.md R101, R103). -/

namespace Sys2Proof.Machine

open Sys2Proof.Safety Sys2Proof.Statements

variable {s t : State} {i : BitVec 8} {r : Ring}

theorem actsFor_of {side : Option Ctx} (h : ActsFor s side) : s.actsFor side = true := by
  rcases h with ⟨ha, hside⟩ | ⟨ha, hside, c, st, hc, hh, hcb⟩
  · simp [State.actsFor, ha, hside]
  · simp [State.actsFor, State.inReceive, State.inExternal, ha, hside, hc, hh, hcb]

/-! ### For the declared side -/

theorem exec_rbPut_of (hi : i.toNat < s.cfg.rbCount) (h : ActsFor s s.cfg.rbProducer[i.toNat]?) :
    exec (.rbPut i) s = settle s (putStep i.toNat s) :=
  (if_pos hi).trans (bySide_of _ (actsFor_of h))

theorem exec_rbGet_of (hi : i.toNat < s.cfg.rbCount) (h : ActsFor s s.cfg.rbConsumer[i.toNat]?) :
    exec (.rbGet i) s = settle s (getStep i.toNat s) :=
  (if_pos hi).trans (bySide_of _ (actsFor_of h))

section MicroSteps

variable {j : Nat} (hr : s.rings[j]? = some r)
include hr

theorem putStep_start (hst : s.stage = .start) :
    putStep j s = .ok (if nextCursor s.cfg.rbN r.wr = r.rd then s.complete .full
      else s.setStage (.putStore j r.wr (nextCursor s.cfg.rbN r.wr))) := by
  simp only [putStep, hst, RbStage.on, putBegin, unitAt_some hr, bind, Except.bind]
  split <;> rfl

theorem putStep_store {w nw : Nat} (hst : s.stage = .putStore j w nw) (hw : w < r.buf.length) :
    putStep j s = .ok ((s.setRing j { r with buf := r.buf.set w (Reg.of s.elemOperand) }).setStage (.putPublish j nw)) := by
  simp [putStep, hst, RbStage.on, putStore, unitAt_some hr, writeSlot_lt hw, bind, Except.bind]

theorem putStep_publish {nw : Nat} (hst : s.stage = .putPublish j nw) :
    putStep j s = .ok ((s.setRing j { r with wr := nw }).complete (.ok .unit)) := by
  simp [putStep, hst, RbStage.on, putPublish, unitAt_some hr, bind, Except.bind]

theorem getStep_start (hst : s.stage = .start) :
    getStep j s = .ok (if r.rd = r.wr then s.complete .empty else s.setStage (.getRead j r.rd)) := by
  simp only [getStep, hst, RbStage.on, getBegin, unitAt_some hr, bind, Except.bind]
  split <;> rfl

theorem getStep_read {k v : Nat} (hst : s.stage = .getRead j k) (hv : r.readSlot k = .ok v) :
    getStep j s = .ok (s.setStage (.getPublish j k v)) := by
  simp [getStep, hst, RbStage.on, getRead, unitAt_some hr, hv, bind, Except.bind]

theorem getStep_publish {k v : Nat} (hst : s.stage = .getPublish j k v) :
    getStep j s = .ok ((s.setRing j { r with rd := nextCursor s.cfg.rbN k }).complete (.ok (.elem v))) := by
  simp [getStep, hst, RbStage.on, getPublish, unitAt_some hr, bind, Except.bind]

end MicroSteps

/-! ### The answers Full and Empty -/

/-- RB_PUT answers Full only where the next write cursor is the read cursor. -/
theorem full_of_exec_rbPut (h : exec (.rbPut i) s = .next t) {a : Agent} (hobs : t.obs = .result a .full :: s.obs) :
    ∃ r, s.rings[i.toNat]? = some r ∧ nextCursor s.cfg.rbN r.wr = r.rd := by
  rcases execRbPut_cases h with ⟨-, ho⟩ | ⟨r, hr, hfull, -⟩ | ⟨r, w, nw, -, -, -, -, ho⟩ | ⟨r, nw, -, -, -, -, ho⟩
  · simp [ho] at hobs
  · exact ⟨r, hr, hfull⟩
  · simp [ho] at hobs
  · simp [ho] at hobs

/-- RB_GET answers Empty only where the cursors agree. -/
theorem empty_of_exec_rbGet (h : exec (.rbGet i) s = .next t) {a : Agent} (hobs : t.obs = .result a .empty :: s.obs) :
    ∃ r, s.rings[i.toNat]? = some r ∧ r.wr = r.rd := by
  rcases execRbGet_cases h with ⟨-, ho⟩ | ⟨r, hr, hempty, -⟩ | ⟨q, r, v, -, -, -, -, ho⟩
  · simp [ho] at hobs
  · exact ⟨r, hr, hempty.symm⟩
  · simp [ho] at hobs

/-- A ring of at least one element is not full and empty at once. -/
theorem nextCursor_wr_ne_of_empty {n : Nat} (hn : 1 ≤ n) (hempty : r.wr = r.rd) : nextCursor n r.wr ≠ r.rd := by
  intro hfull
  have hle : r.wr ≤ n := hempty.trans hfull.symm ▸ nextCursor_le n r.wr
  rw [nextCursor_of_le hle] at hfull
  split at hfull <;> omega

/-! ### From a state of the invariant -/

/-- RB_PUT on ring `r` of a state of the invariant: what the producer has read is still true. -/
theorem execRbPut_of_inv (h : Inv s) (hr : s.rings[i.toNat]? = some r) (hx : execRbPut i s = .next t) :
    (t.rings = s.rings ∧ t.obs = s.obs) ∨
    (nextCursor s.cfg.rbN r.wr = r.rd ∧ t.rings = s.rings ∧ t.obs = .result s.agent .full :: s.obs) ∨
    (t.rings = s.rings.set i.toNat (storeElem r s.elemOperand) ∧ t.obs = s.obs) ∨
    (nextCursor s.cfg.rbN r.wr ≠ r.rd ∧ slotWritten r r.wr ∧
      t.rings = s.rings.set i.toNat (publishWr s.cfg.rbN r) ∧ t.obs = .result s.agent (.ok .unit) :: s.obs) := by
  have hsame : ∀ {q}, s.rings[i.toNat]? = some q → q = r := fun hq => Option.some.inj (hq.symm.trans hr)
  rcases execRbPut_cases hx with
    hkept | ⟨q, hq, hfull⟩ | ⟨q, w, nw, hact, hst, hq, ht, ho⟩ | ⟨q, nw, hact, hst, hq, ht, ho⟩
  · exact .inl hkept
  · obtain rfl := hsame hq
    exact .inr (.inl hfull)
  · obtain ⟨who, -, -, hat⟩ := standsAt_of_actsFor hact
    obtain ⟨-, q', hq', rfl, -⟩ : StageOk s who (.putStore i.toNat w nw) := hst ▸ h.stageOk_of_standsAt hat
    obtain rfl := hsame hq
    obtain rfl := hsame hq'
    exact .inr (.inr (.inl ⟨ht, ho⟩))
  · obtain ⟨who, -, -, hat⟩ := standsAt_of_actsFor hact
    obtain ⟨-, q', hq', rfl, hfree, hw⟩ : StageOk s who (.putPublish i.toNat nw) := hst ▸ h.stageOk_of_standsAt hat
    obtain rfl := hsame hq
    obtain rfl := hsame hq'
    exact .inr (.inr (.inr ⟨hfree, hw, ht, ho⟩))

/-- RB_GET on ring `r` of a state of the invariant: what the consumer has read is still true. -/
theorem execRbGet_of_inv (h : Inv s) (hr : s.rings[i.toNat]? = some r) (hx : execRbGet i s = .next t) :
    (t.rings = s.rings ∧ t.obs = s.obs) ∨
    (r.rd = r.wr ∧ t.rings = s.rings ∧ t.obs = .result s.agent .empty :: s.obs) ∨
    (r.rd ≠ r.wr ∧ ∃ c, r.buf[r.rd]? = some c ∧
      t.rings = s.rings.set i.toNat (releaseRd s.cfg.rbN r) ∧ t.obs = .result s.agent (.ok (.elem c.val)) :: s.obs) := by
  have hsame : ∀ {q}, s.rings[i.toNat]? = some q → q = r := fun hq => Option.some.inj (hq.symm.trans hr)
  rcases execRbGet_cases hx with hkept | ⟨q, hq, hempty⟩ | ⟨q, rd, v, hact, hst, hq, ht, ho⟩
  · exact .inl hkept
  · obtain rfl := hsame hq
    exact .inr (.inl hempty)
  · obtain ⟨who, -, -, hat⟩ := standsAt_of_actsFor hact
    obtain ⟨-, q', hq', rfl, hne, c, hc, -, rfl⟩ : StageOk s who (.getPublish i.toNat rd v) :=
      hst ▸ h.stageOk_of_standsAt hat
    obtain rfl := hsame hq
    obtain rfl := hsame hq'
    exact .inr (.inr ⟨hne, c, hc, ht, ho⟩)

end Sys2Proof.Machine

namespace Sys2Proof.Statements

open Sys2Proof.Machine Sys2Proof.Safety

/-- Settles O27: each answer is given at its own condition on the cursors. -/
theorem fullEmptyExclusive : Obligations.FullEmptyExclusive := by
  refine ⟨fun s t i a h => full_of_exec_rbPut h, fun s t i a h => empty_of_exec_rbGet h,
    fun s t u i a b hn hput hfull hget hempty => ?_⟩
  obtain ⟨r, hr, hnext⟩ := full_of_exec_rbPut hput hfull
  obtain ⟨q, hq, heq⟩ := empty_of_exec_rbGet hget hempty
  obtain rfl : q = r := Option.some.inj (hq.symm.trans hr)
  exact nextCursor_wr_ne_of_empty hn heq hnext

/-- Settles O25: each micro-step of RB_PUT from its stage. -/
theorem rbPutSteps : Obligations.RbPutSteps := by
  intro i s ring hi hact hr
  rw [exec_rbPut_of hi hact]
  refine ⟨fun hst => ⟨nextCursor s.cfg.rbN ring.wr, rfl, fun hfull => ?_, fun hfree => ?_⟩,
    fun w nw hst hw => ⟨_, rfl, ?_, readSlot_write_same (writeSlot_lt hw _), fun k => readSlot_write_other (writeSlot_lt hw _)⟩,
    fun nw hst => ?_⟩
  · rw [putStep_start hr hst, if_pos hfull]; rfl
  · rw [putStep_start hr hst, if_neg hfree]; rfl
  · rw [putStep_store hr hst hw]; rfl
  · rw [putStep_publish hr hst]; rfl

/-- Settles O26: each micro-step of RB_GET from its stage. -/
theorem rbGetSteps : Obligations.RbGetSteps := by
  intro i s ring hi hact hr
  rw [exec_rbGet_of hi hact]
  refine ⟨fun hst => ⟨fun hempty => ?_, fun hne => ?_⟩, fun k v hst hv => ?_, fun k v hst => ?_⟩
  · rw [getStep_start hr hst, if_pos hempty]; rfl
  · rw [getStep_start hr hst, if_neg hne]; rfl
  · rw [getStep_read hr hst hv]; rfl
  · rw [getStep_publish hr hst]; rfl

end Sys2Proof.Statements

/-! # A ring over every step

What a step of any agent does to one ring, from a state of the invariant (40_ring_buffer.md R104, R106). -/

namespace Sys2Proof.Statements

open Sys2Proof.Machine Sys2Proof.Safety

variable {s t : State} {i j : BitVec 8} {r r' : Ring}

/-- A step executes one operation at most. -/
theorem ran_unique {x y : Instr} (hx : Ran s x) (hy : Ran s y) : x = y := by
  obtain ⟨a, o, hop, hx⟩ := hx
  obtain ⟨b, p, hop', hy⟩ := hy
  obtain ⟨rfl, rfl⟩ := Prod.mk.inj (Option.some.inj (hop.symm.trans hop'))
  exact Except.ok.inj (hx.symm.trans hy)

/-- The step that executes an operation is `exec` of it by its issuer, the event taken. -/
theorem exec_of_ran (h : Inv s) (hs : step s = .next t) {x : Instr} (hx : Ran s x) :
    ∃ a o, s.currentOp s.nextEvent = some (a, o) ∧ decode o.word = .ok x ∧ exec x (s.takeEvent.issue a o) = .next t := by
  obtain ⟨a, o, hop, hx⟩ := hx
  refine ⟨a, o, hop, hx, ?_⟩
  have hstep : step s = stepEvent s.nextEvent s.takeEvent := by
    unfold step
    rw [h.faults, h.cfg]
    rfl
  rw [← hs, hstep, stepEvent, currentOp_takeEvent, hop]
  exact (runWord_of_decode hx).symm

/-- What RB_PUT and RB_GET on ring `i`, which is `r`, do in a state `s` of the invariant: what they answer, if anything, and the
ring after it. -/
inductive RingMove (s : State) (i : BitVec 8) (r : Ring) : Option Result → Ring → Prop where
  /-- RB_PUT μ1 and RB_GET μ1 going on, RB_GET μ2, a refusal -/
  | silent : RingMove s i r none r
  /-- RB_PUT μ1 where no slot is free -/
  | full (hfull : nextCursor s.cfg.rbN r.wr = r.rd) : RingMove s i r (some .full) r
  /-- RB_PUT μ2 -/
  | store (a : Agent) (o : IssuedOp) (hop : s.currentOp s.nextEvent = some (a, o)) (hword : decode o.word = .ok (.rbPut i)) :
      RingMove s i r none (storeElem r (o.a.elem % 2 ^ s.cfg.rbTW))
  /-- RB_PUT μ3 -/
  | publish (c : Reg Nat) (hran : Ran s (.rbPut i)) (hfree : nextCursor s.cfg.rbN r.wr ≠ r.rd)
      (hc : r.buf[r.wr]? = some c) (hwritten : c.written = true) :
      RingMove s i r (some (.ok .unit)) (publishWr s.cfg.rbN r)
  /-- RB_GET μ1 where the cursors agree -/
  | empty (hempty : r.rd = r.wr) : RingMove s i r (some .empty) r
  /-- RB_GET μ3 -/
  | release (c : Reg Nat) (hran : Ran s (.rbGet i)) (hne : r.rd ≠ r.wr) (hc : r.buf[r.rd]? = some c) :
      RingMove s i r (some (.ok (.elem c.val))) (releaseRd s.cfg.rbN r)

/-- What the environment observes of a step from `s` to `t`: nothing, or one result (60_exceptions.md R240). -/
def Answered (s t : State) : Option Result → Prop
  | none => t.obs = s.obs
  | some x => ∃ a, t.obs = .result a x :: s.obs

theorem Answered.eq_some {ans : Option Result} (h : Answered s t ans) {a : Agent} {x : Result}
    (hobs : t.obs = .result a x :: s.obs) : ans = some x := by
  cases ans with
  | none => exact absurd (hobs.symm.trans h) (List.cons_ne_self _ _)
  | some y =>
    obtain ⟨b, hb⟩ := h
    have hhead := (List.cons.inj (hb.symm.trans hobs)).1
    rw [(Obs.result.inj hhead).2]

/-- The step from `s` to `t` makes a move on ring `i`, which is `r` before it. -/
def Moved (s t : State) (i : BitVec 8) (r : Ring) : Prop :=
  ∃ ans r', t.rings[i.toNat]? = some r' ∧ RingMove s i r ans r' ∧ Answered s t ans

theorem getElem?_of_set {l : List Ring} (ht : t.rings = l.set i.toNat r') (hr : l[i.toNat]? = some r) :
    t.rings[i.toNat]? = some r' := by
  rw [ht, List.getElem?_set_self (List.getElem?_eq_some_iff.mp hr).1]

theorem moved_of_put (h : Inv s) (hs : step s = .next t) (hr : s.rings[i.toNat]? = some r) (hran : Ran s (.rbPut i)) :
    Moved s t i r := by
  obtain ⟨a, o, hop, hword, hx⟩ := exec_of_ran h hs hran
  rcases execRbPut_of_inv (h.takeEvent.issue a o) hr hx with
    ⟨ht, hobs⟩ | ⟨hfull, ht, hobs⟩ | ⟨ht, hobs⟩ | ⟨hfree, ⟨c, hc, hwritten⟩, ht, hobs⟩
  · exact ⟨_, _, ht ▸ hr, .silent, hobs⟩
  · exact ⟨_, _, ht ▸ hr, .full hfull, _, hobs⟩
  · exact ⟨_, _, getElem?_of_set ht hr, .store a o hop hword, hobs⟩
  · exact ⟨_, _, getElem?_of_set ht hr, .publish c hran hfree hc hwritten, _, hobs⟩

theorem moved_of_get (h : Inv s) (hs : step s = .next t) (hr : s.rings[i.toNat]? = some r) (hran : Ran s (.rbGet i)) :
    Moved s t i r := by
  obtain ⟨a, o, -, -, hx⟩ := exec_of_ran h hs hran
  rcases execRbGet_of_inv (h.takeEvent.issue a o) hr hx with ⟨ht, hobs⟩ | ⟨hempty, ht, hobs⟩ | ⟨hne, c, hc, ht, hobs⟩
  · exact ⟨_, _, ht ▸ hr, .silent, hobs⟩
  · exact ⟨_, _, ht ▸ hr, .empty hempty, _, hobs⟩
  · exact ⟨_, _, getElem?_of_set ht hr, .release c hran hne hc, _, hobs⟩

/-- RB_PUT and RB_GET write at most the ring they name. -/
theorem ring_kept_of_exec {x : Instr} (hx : x = .rbPut j ∨ x = .rbGet j) (hij : i ≠ j) (h : exec x s = .next t) :
    t.rings[i.toNat]? = s.rings[i.toNat]? := by
  have hset : ∀ q, t.rings = s.rings.set j.toNat q → t.rings[i.toNat]? = s.rings[i.toNat]? := fun q ht => by
    rw [ht, List.getElem?_set_ne fun he => hij (BitVec.eq_of_toNat_eq he.symm)]
  rcases hx with rfl | rfl
  · rcases execRbPut_cases h with ⟨ht, -⟩ | ⟨r, -, -, ht, -⟩ | ⟨r, w, nw, -, -, -, ht, -⟩ | ⟨r, nw, -, -, -, ht, -⟩
    · rw [ht]
    · rw [ht]
    · exact hset _ ht
    · exact hset _ ht
  · rcases execRbGet_cases h with ⟨ht, -⟩ | ⟨r, -, -, ht, -⟩ | ⟨q, rd, v, -, -, -, ht, -⟩
    · rw [ht]
    · rw [ht]
    · exact hset _ ht

/-- A ring changes only where RB_PUT or RB_GET on it is executed. -/
theorem ring_kept (h : Inv s) (hs : step s = .next t) (hput : ¬ Ran s (.rbPut i)) (hget : ¬ Ran s (.rbGet i)) :
    t.rings[i.toNat]? = s.rings[i.toNat]? := by
  by_cases hsame : t.rings = s.rings
  · rw [hsame]
  · obtain ⟨w, hw, hu⟩ := step_wrote hs
    obtain ⟨j, hran⟩ := rings_written hw hu hsame
    have hij : i ≠ j := fun he => hran.elim (he ▸ hput) (he ▸ hget)
    rcases hran with hran | hran <;> obtain ⟨a, o, -, -, hx⟩ := exec_of_ran h hs hran
    · exact ring_kept_of_exec (s := s.takeEvent.issue a o) (.inl rfl) hij hx
    · exact ring_kept_of_exec (s := s.takeEvent.issue a o) (.inr rfl) hij hx

/-- Every step leaves a ring as it is or makes one of the moves on it. -/
theorem step_moves (h : Inv s) (hs : step s = .next t) (hr : s.rings[i.toNat]? = some r) :
    t.rings[i.toNat]? = some r ∨ Moved s t i r := by
  by_cases hput : Ran s (.rbPut i)
  · exact .inr (moved_of_put h hs hr hput)
  by_cases hget : Ran s (.rbGet i)
  · exact .inr (moved_of_get h hs hr hget)
  exact .inl ((ring_kept h hs hput hget).trans hr)

/-- The move behind an answer. -/
theorem Moved.of_answer (h : Moved s t i r) {a : Agent} {x : Result} (hobs : t.obs = .result a x :: s.obs) :
    ∃ r', t.rings[i.toNat]? = some r' ∧ RingMove s i r (some x) r' := by
  obtain ⟨ans, r', hr', hm, hans⟩ := h
  exact ⟨r', hr', hans.eq_some hobs ▸ hm⟩

/-! ### The moves on the queue -/

/-- A move leaves the elements, appends the one in slot RB_WR, or removes the oldest. -/
theorem Moved.contents (hok : RingOk s.cfg.rbN r) (h : Moved s t i r) :
    ∃ r', t.rings[i.toNat]? = some r' ∧
      (contents s.cfg.rbN r' = contents s.cfg.rbN r ∨
       (Ran s (.rbPut i) ∧ ∃ a c, r.buf[r.wr]? = some c ∧ c.written = true ∧
         contents s.cfg.rbN r' = contents s.cfg.rbN r ++ [c.val] ∧ t.obs = .result a (.ok .unit) :: s.obs) ∨
       (Ran s (.rbGet i) ∧ ∃ a v, contents s.cfg.rbN r = v :: contents s.cfg.rbN r' ∧
         t.obs = .result a (.ok (.elem v)) :: s.obs)) := by
  obtain ⟨ans, r', hr', hm, hans⟩ := h
  refine ⟨r', hr', ?_⟩
  cases hm with
  | store a o hop hword => exact .inl (contents_storeElem hok _)
  | publish c hran hfree hc hwritten =>
    obtain ⟨a, hobs⟩ := hans
    exact .inr (.inl ⟨hran, a, c, hc, hwritten, contents_publishWr hok hfree hc, hobs⟩)
  | release c hran hne hc =>
    obtain ⟨a, hobs⟩ := hans
    exact .inr (.inr ⟨hran, a, c.val, contents_releaseRd hok hne hc, hobs⟩)
  | _ => exact .inl rfl

/-- Of the moves only RB_PUT μ2 changes a slot. -/
theorem RingMove.store_of_buf_ne {ans : Option Result} (h : RingMove s i r ans r') (hne : r'.buf ≠ r.buf) :
    ∃ a o, s.currentOp s.nextEvent = some (a, o) ∧ decode o.word = .ok (.rbPut i) ∧
      r' = storeElem r (o.a.elem % 2 ^ s.cfg.rbTW) := by
  cases h with
  | store a o hop hword => exact ⟨a, o, hop, hword, rfl⟩
  | _ => exact absurd rfl hne

/-- Settles O28: each step is one of the moves, each answer belongs to one of them, and the three writes act on the queue as
`contents_storeElem`, `contents_publishWr` and `contents_releaseRd` say. -/
theorem ringIsQueue : Obligations.RingIsQueue := by
  intro s t i r h hs hr
  have hok := h.rings _ r hr
  have hput : ∀ {a x}, Ran s (.rbPut i) → t.obs = .result a x :: s.obs →
      ∃ r', t.rings[i.toNat]? = some r' ∧ RingMove s i r (some x) r' := fun hran =>
    (moved_of_put h hs hr hran).of_answer
  have hget : ∀ {a x}, Ran s (.rbGet i) → t.obs = .result a x :: s.obs →
      ∃ r', t.rings[i.toNat]? = some r' ∧ RingMove s i r (some x) r' := fun hran =>
    (moved_of_get h hs hr hran).of_answer
  refine ⟨length_contents _ r ▸ occupancy_le _ r, ?_, fun hran a hobs => ?_, fun hran a v hobs => ?_, fun r' hr' hne => ?_,
    fun hran a hobs => ?_, fun hran a hobs => ?_⟩
  · rcases step_moves h hs hr with hkept | hm
    · exact ⟨r, hkept, .inl rfl⟩
    · exact hm.contents hok
  · obtain ⟨r', hr', hm⟩ := hput hran hobs
    cases hm with
    | publish c _ hfree hc hwritten => exact ⟨_, c, hr', hc, hwritten, contents_publishWr hok hfree hc⟩
  · obtain ⟨r', hr', hm⟩ := hget hran hobs
    cases hm with
    | release c _ hne hc => exact ⟨_, hr', contents_releaseRd hok hne hc⟩
  · rcases step_moves h hs hr with hkept | ⟨ans, q, hq, hm, -⟩
    · exact absurd (Option.some.inj (hr'.symm.trans hkept) ▸ rfl) hne
    · obtain rfl : q = r' := Option.some.inj (hq.symm.trans hr')
      exact hm.store_of_buf_ne hne
  · obtain ⟨r', -, hm⟩ := hput hran hobs
    cases hm with
    | full hfull => rw [length_contents, occupancy_of_full hok hfull]
  · obtain ⟨r', -, hm⟩ := hget hran hobs
    cases hm with
    | empty hempty => exact List.eq_nil_of_length_eq_zero (by rw [length_contents, occupancy_of_empty hok hempty])

end Sys2Proof.Statements

/-! # The capture counter and its interrupt handler

TimestampCapture as a calculus of its own (41_capture.md R120–R126): a half word above a half word, the epoch with the
overflow flag, and one equation per micro-step of CAP_ISR. -/

namespace Sys2Proof.Machine

/-! ### A half word above a half word -/

theorem toNat_append_half (e x : Half) : (e ++ x : BitVec (16 + 16)).toNat = e.toNat * 2 ^ 16 + x.toNat := by
  rw [BitVec.toNat_append, ← Nat.shiftLeft_add_eq_or_of_lt x.isLt, Nat.shiftLeft_eq]

/-- The timestamp of 41_capture.md R124 puts the epoch above the counter value. -/
theorem timestamp_eq_append (e x : Half) : timestamp e x = (e ++ x : BitVec (16 + 16)) := by
  have he : e.toNat % 2 ^ 32 = e.toNat := Nat.mod_eq_of_lt (by omega)
  have hx : x.toNat % 2 ^ 32 = x.toNat := Nat.mod_eq_of_lt (by omega)
  have hs : e.toNat <<< 16 % 2 ^ 32 = e.toNat <<< 16 := Nat.mod_eq_of_lt (by rw [Nat.shiftLeft_eq]; omega)
  apply BitVec.eq_of_toNat_eq
  rw [timestamp, BitVec.toNat_or, BitVec.toNat_shiftLeft, BitVec.toNat_setWidth, BitVec.toNat_setWidth, he, hx, hs,
    BitVec.toNat_append]

theorem succ_eq_zero_iff (x : Half) : x + 1 = 0 ↔ x = 0xFFFF := by
  constructor <;> intro h <;> bv_omega

/-- Counting through the wrap: the carry of the counter goes into the epoch. -/
theorem append_succ (e x : Half) :
    ((if x + 1 = 0 then e + 1 else e) ++ (x + 1) : BitVec (16 + 16)) = (e ++ x : BitVec (16 + 16)) + 1 := by
  apply BitVec.eq_of_toNat_eq
  rw [toNat_append_half, BitVec.toNat_add (e ++ x : BitVec (16 + 16)), toNat_append_half]
  split <;> bv_omega

/-! ### The epoch with the overflow flag -/

/-- OVC with the overflow that stands in CAP_SR (41_capture.md R125). -/
def Capture.epoch (c : Capture) : Half := c.ovc + if isOvf c.sr = true then 1 else 0

theorem isOvf_or_flagOvf (sr : BitVec 3) : isOvf (sr ||| flagOvf) = true := by revert sr; decide

theorem isOvf_or_flagLdr (sr : BitVec 3) : isOvf (sr ||| flagLdr) = isOvf sr := by revert sr; decide

theorem isOvf_or_flagLdf (sr : BitVec 3) : isOvf (sr ||| flagLdf) = isOvf sr := by revert sr; decide

@[simp] theorem clearRead_self {n : Nat} (sr : BitVec n) : clearRead sr sr = 0 := BitVec.and_not_self sr

theorem tick_of_wrap {c : Capture} (h : c.cnt = 0xFFFF) : c.tick = { c with cnt := 0, sr := c.sr ||| flagOvf } := by
  rw [Capture.tick, if_pos ((succ_eq_zero_iff _).mpr h), (succ_eq_zero_iff _).mpr h]

theorem tick_of_ne {c : Capture} (h : c.cnt ≠ 0xFFFF) : c.tick = { c with cnt := c.cnt + 1 } := by
  rw [Capture.tick, if_neg (mt (succ_eq_zero_iff _).mp h)]

/-- A tick carries into the epoch at the wrap, where no overflow is pending already (41_capture.md R125, P1). -/
theorem epoch_tick {c : Capture} (h : ¬ (c.cnt = 0xFFFF ∧ isOvf c.sr = true)) :
    c.tick.epoch = if c.cnt + 1 = 0 then c.epoch + 1 else c.epoch := by
  by_cases hwrap : c.cnt = 0xFFFF
  · have hclear : isOvf c.sr = false := by simpa using not_and.mp h hwrap
    rw [if_pos ((succ_eq_zero_iff _).mpr hwrap), tick_of_wrap hwrap]
    simp [Capture.epoch, hclear, isOvf_or_flagOvf]
  · rw [if_neg (mt (succ_eq_zero_iff _).mp hwrap), tick_of_ne hwrap]
    rfl

theorem epoch_edge (c : Capture) (kind : EdgeKind) : (c.edge kind).epoch = c.epoch := by
  cases kind with
  | rising => simp [Capture.epoch, Capture.edge, isOvf_or_flagLdr]
  | falling => simp [Capture.epoch, Capture.edge, isOvf_or_flagLdf]

theorem cnt_edge (c : Capture) (kind : EdgeKind) : (c.edge kind).cnt = c.cnt := by cases kind <;> rfl

/-! ### CAP_CNT_TICK, CAP_EDGE, CAP_ISR -/

variable {s t : State} {c : IsrCtx}

theorem exec_capCntTick_of (h : s.agent = .hw .capcnt) : exec .capCntTick s = .next { s with cap := s.cap.tick } := by
  change execCapCntTick s = _
  rw [execCapCntTick, byAgent_of _ h, settle_ok]

theorem exec_capEdge_of (h : s.agent = .hw .capcnt) (kind : EdgeKind) :
    exec (.capEdge kind) s = .next { s with cap := s.cap.edge kind } := by
  change execCapEdge kind s = _
  rw [execCapEdge, byAgent_of _ h, settle_ok]

theorem Reg.read_of_written {α : Type} {r : Reg α} (h : r.written = true) : r.read = .ok r.val := if_pos h

/-- CAP_ISR μ1: read and clear CAP_SR. -/
theorem capIsrStep_status (h : c.mu = 1) :
    capIsrStep c s = .ok ({ s with cap := { s.cap with sr := 0 } }.setIsr { c with mu := 2, hSr := s.cap.sr }) := by
  simp [capIsrStep, h]

/-- CAP_ISR μ2: read CNT. -/
theorem capIsrStep_count (h : c.mu = 2) : capIsrStep c s = .ok (s.setIsr { c with mu := 3, hTv := s.cap.cnt }) := by
  simp [capIsrStep, h]

/-- CAP_ISR μ3 where LDR was read: read LATCH_R. -/
theorem capIsrStep_rising (h : c.mu = 3) (hl : isLdr c.hSr = true) (hw : s.cap.latchR.written = true) :
    capIsrStep c s = .ok (s.setIsr { c with mu := 4, hRa := s.cap.latchR.val }) := by
  simp [capIsrStep, h, hl, Reg.read_of_written hw, Except.map]

theorem capIsrStep_noRising (h : c.mu = 3) (hl : isLdr c.hSr = false) :
    capIsrStep c s = .ok (s.setIsr { c with mu := 4 }) := by
  simp [capIsrStep, h, hl]

/-- CAP_ISR μ4 where LDF was read: read LATCH_F. -/
theorem capIsrStep_falling (h : c.mu = 4) (hl : isLdf c.hSr = true) (hw : s.cap.latchF.written = true) :
    capIsrStep c s = .ok (s.setIsr { c with mu := 5, hRb := s.cap.latchF.val }) := by
  simp [capIsrStep, h, hl, Reg.read_of_written hw, Except.map]

theorem capIsrStep_noFalling (h : c.mu = 4) (hl : isLdf c.hSr = false) :
    capIsrStep c s = .ok (s.setIsr { c with mu := 5 }) := by
  simp [capIsrStep, h, hl]

/-- CAP_ISR μ5: publish and return. -/
theorem capIsrStep_publish (h : c.mu = 5) :
    capIsrStep c s = .ok ({ s with cap := s.cap.publish c }.leaveHandler .capIsr (.ok .unit)) := by
  simp [capIsrStep, h]

/-! ### CAP_POLL -/

theorem mailbox_of_written {isNew : Bool} {r : Reg Word} (h : isNew = true → r.written = true) :
    mailbox isNew r = .ok (if isNew = true then some r.val else none) := by
  cases isNew with
  | true => simp [mailbox, Reg.read_of_written (h rfl), Except.map]
  | false => rfl

/-- CAP_POLL's body where each timestamp flagged new holds a value (41_capture.md R126). -/
theorem capPollStep_of_written (hR : isNewR s.cap.fresh = true → s.cap.tsR.written = true)
    (hF : isNewF s.cap.fresh = true → s.cap.tsF.written = true) :
    capPollStep s = .ok ({ s with cap := { s.cap with fresh := 0 } }.complete
      (.ok (.event (if isNewR s.cap.fresh = true then some s.cap.tsR.val else none)
        (if isNewF s.cap.fresh = true then some s.cap.tsF.val else none)))) := by
  rw [capPollStep, mailbox_of_written hR, mailbox_of_written hF]
  rfl

end Sys2Proof.Machine

namespace Sys2Proof.Statements

open Sys2Proof.Machine Sys2Proof.Safety

/-- Settles O29: the tick, by whether it wraps. -/
theorem capCntTick : Obligations.CapCntTick := by
  intro s ha
  rw [exec_capCntTick_of ha]
  refine ⟨fun hno => ?_, fun hwrap => ?_⟩
  · rw [tick_of_ne hno]
  · rw [tick_of_wrap hwrap]; rfl

/-- Settles O30: the edge of each kind. -/
theorem capEdge : Obligations.CapEdge := fun _ ha => ⟨exec_capEdge_of ha .rising, exec_capEdge_of ha .falling⟩

/-- The timestamp of μ5 is the one 41_capture.md R122 and R124 give. -/
theorem timestamp_edgeEpoch (hSr : BitVec 3) (e tv x : Half) : timestamp (edgeEpoch hSr e tv x) x = extended hSr e tv x :=
  timestamp_eq_append _ _

/-- The active CAP_ISR's word executes its next micro-step. -/
theorem exec_capIsr_of {s t : State} {c : IsrCtx} {mu : Nat} (h : InHandler s c .capIsr mu)
    (ht : c.mu = mu → capIsrStep c s = .ok t) : exec .capIsr s = .next t := by
  obtain ⟨ha, hc, hh, hcb, hmu⟩ := h
  change byHandler .capIsr capIsrStep s = _
  rw [byHandler_of _ ha hc hh hcb, ht hmu, settle_ok]

/-- CAP_ISR μ5 with the timestamps as 41_capture.md R122 writes them. -/
theorem capIsrStep_publish_extended {s : State} {c : IsrCtx} (h : c.mu = 5) :
    capIsrStep c s = .ok { s with
      cap := { s.cap with
        tsR := if c.hSr.getLsbD 1 = true then Reg.of (extended c.hSr s.cap.ovc c.hTv c.hRa) else s.cap.tsR
        tsF := if c.hSr.getLsbD 2 = true then Reg.of (extended c.hSr s.cap.ovc c.hTv c.hRb) else s.cap.tsF
        fresh := s.cap.fresh ||| (if c.hSr.getLsbD 1 = true then 0b01 else 0) |||
          (if c.hSr.getLsbD 2 = true then 0b10 else 0)
        ovc := if c.hSr.getLsbD 0 = true then s.cap.ovc + 1 else s.cap.ovc }
      isr := none
      obs := .trace .capIsr (.ok .unit) :: s.obs } := by
  rw [capIsrStep_publish h, ← timestamp_edgeEpoch, ← timestamp_edgeEpoch]
  rfl

/-- Settles O31: each micro-step by its equation. -/
theorem capIsrSteps : Obligations.CapIsrSteps := by
  intro s c
  refine ⟨fun h => exec_capIsr_of h capIsrStep_status, fun h => exec_capIsr_of h capIsrStep_count,
    fun h => ⟨fun hl hw => exec_capIsr_of h fun hmu => capIsrStep_rising hmu hl hw,
      fun hl => exec_capIsr_of h fun hmu => capIsrStep_noRising hmu hl⟩,
    fun h => ⟨fun hl hw => exec_capIsr_of h fun hmu => capIsrStep_falling hmu hl hw,
      fun hl => exec_capIsr_of h fun hmu => capIsrStep_noFalling hmu hl⟩,
    fun h => exec_capIsr_of h capIsrStep_publish_extended⟩

/-- Settles O34: the body in its critical section, which leaves PRIMASK 0. -/
theorem capPoll : Obligations.CapPoll := by
  intro s ha hR hF
  change byAgent .poll (critical capPollStep) s = _
  rw [byAgent_of _ ha, critical, capPollStep_of_written (s := { s with primask := true }) hR hF]
  exact congrArg Host.Outcome.next (complete_setPrimask { s with cap := { s.cap with fresh := 0 }, primask := true } false _).symm

/-- An edge at true count `e` gets `e` modulo 2^32 (41_capture.md R125): where no overflow was read it lies in the epoch of μ1; where
one was, it lies in that epoch if `x <= tv` and in the one before it otherwise. -/
theorem extended_eq_of_exact {hSr : BitVec 3} {ovc tv : Half} {e m1 m2 : Nat} (he : e ≤ m1) (hm : m1 ≤ m2)
    (htv : tv = BitVec.ofNat 16 m2)
    (hepoch : (ovc.toNat + (if hSr.getLsbD 0 = true then 1 else 0)) % 2 ^ 16 = m1 / 2 ^ 16 % 2 ^ 16)
    (hread : hSr.getLsbD 0 = true → m2 / 2 ^ 16 = m1 / 2 ^ 16 ∧ m2 - e < 2 ^ 16)
    (hclear : hSr.getLsbD 0 = false → e / 2 ^ 16 = m1 / 2 ^ 16) :
    extended hSr ovc tv (BitVec.ofNat 16 e) = BitVec.ofNat 32 e := by
  subst htv
  apply BitVec.eq_of_toNat_eq
  rw [extended, toNat_append_half]
  cases hovf : hSr.getLsbD 0 with
  | false =>
    have hsame := hclear hovf
    simp only [hovf, Bool.false_eq_true, false_and, if_false, BitVec.toNat_ofNat] at hepoch ⊢
    omega
  | true =>
    obtain ⟨hsame, hnear⟩ := hread hovf
    simp only [hovf, true_and, if_true, BitVec.toNat_ofNat] at hepoch ⊢
    split <;> bv_omega

/-- Settles O33: at μ5 each latched edge gets `extended_eq_of_exact`. -/
theorem timestampExact : Obligations.TimestampExact := by
  intro s c e m1 m2 hin he hm htv hepoch hread hclear
  have hexact := extended_eq_of_exact he hm htv hepoch hread hclear
  refine ⟨_, exec_capIsr_of hin capIsrStep_publish_extended, fun hl hx => ?_, fun hl hx => ?_⟩
  · rw [← hexact, ← hx]; exact if_pos hl
  · rw [← hexact, ← hx]; exact if_pos hl

end Sys2Proof.Statements

/-! # Independent timers

Replacing a unit that the contexts do not look at: whoever issues, goes on or is refused does so alike; then the capture
counter and the frame timer, each blind to the other's state (41_capture.md R130). -/

namespace Sys2Proof.Machine

/-- `g` replaces state that neither the choice of the issuer nor a refusal nor a fault reads or writes. -/
structure Foreign (g : State → State) : Prop where
  agent : ∀ s, (g s).agent = s.agent
  isr : ∀ s, (g s).isr = s.isr
  mark : ∀ s r, (g s).mark r = g (s.mark r)
  refuse : ∀ s, (g s).refuse = g s.refuse

/-- Replace the capture unit. -/
def State.setCap (c : Capture) (s : State) : State := { s with cap := c }

/-- Replace the frame timer. -/
def State.setFt (f : FrameTimer) (s : State) : State := { s with ft := f }

/-- How the issuing context goes on is read off the contexts, and writes the contexts alone. -/
theorem advance_of_contexts {s t : State} (ha : t.agent = s.agent) (hp : t.poll = s.poll) (hi : t.isr = s.isr)
    (hc : t.cbItems = s.cbItems) (hx : t.cbIdx = s.cbIdx) :
    t.advance = { t with poll := s.advance.poll, isr := s.advance.isr, cbItems := s.advance.cbItems, cbIdx := s.advance.cbIdx } := by
  obtain ⟨a, hs⟩ | hs | ⟨hs, hno⟩ | ⟨c, st, hs, hs', hcb⟩ := issuer_cases s
  · rw [advance_of_hw (ha.trans hs), advance_of_hw hs, ← hp, ← hi, ← hc, ← hx]
  · rw [advance_of_poll (ha.trans hs), advance_of_poll hs, ← hp, ← hi, ← hc, ← hx]
  · have hno' : t.inExternal = false := by rw [State.inExternal, hi]; exact hno
    rw [advance_of_handler (ha.trans hs) hno', advance_of_handler hs hno, ← hp, ← hi, ← hc, ← hx]
  · rw [advance_of_callback (ha.trans hs) (hi.trans hs') hcb, advance_of_callback hs hs' hcb, ← hp, ← hc, ← hx]

theorem advance_setCap (c : Capture) (s : State) : (s.setCap c).advance = s.advance.setCap c :=
  (advance_of_contexts (t := s.setCap c) (s := s) rfl rfl rfl rfl rfl).trans
    (congrArg (State.setCap c) (advance_of_contexts (s := s) rfl rfl rfl rfl rfl).symm)

theorem advance_setFt (f : FrameTimer) (s : State) : (s.setFt f).advance = s.advance.setFt f :=
  (advance_of_contexts (t := s.setFt f) (s := s) rfl rfl rfl rfl rfl).trans
    (congrArg (State.setFt f) (advance_of_contexts (s := s) rfl rfl rfl rfl rfl).symm)

theorem foreign_setCap (c : Capture) : Foreign (State.setCap c) :=
  ⟨fun _ => rfl, fun _ => rfl, fun _ _ => rfl, fun s => advance_setCap c { s with refused := true }⟩

theorem foreign_setFt (f : FrameTimer) : Foreign (State.setFt f) :=
  ⟨fun _ => rfl, fun _ => rfl, fun _ _ => rfl, fun s => advance_setFt f { s with refused := true }⟩

section Foreign

variable {g : State → State} {s t : State}

theorem Foreign.settle (hg : Foreign g) {e : Except Fault State} (h : settle s e = .next t) :
    Machine.settle (g s) (e.map g) = .next (g t) := by
  rcases settle_cases h with rfl | ⟨r, rfl, rfl⟩
  · rfl
  · exact congrArg Host.Outcome.next (hg.mark s r)

/-- An agent's operation whose body does not look at the replaced state does the same beside it. -/
theorem Foreign.byAgent (hg : Foreign g) {a : Agent} {f : State → Except Fault State} (hf : f (g s) = (f s).map g)
    (h : byAgent a f s = .next t) : Machine.byAgent a f (g s) = .next (g t) := by
  by_cases ha : s.agent = a
  · rw [byAgent_of f ha] at h
    rw [byAgent_of f ((hg.agent s).trans ha), hf]
    exact hg.settle h
  · rw [byAgent_other f ha] at h
    cases h
    rw [byAgent_other f (mt (hg.agent s).symm.trans ha), hg.refuse]

/-- A handler's micro-step that does not look at the replaced state does the same beside it. -/
theorem Foreign.byHandler (hg : Foreign g) {hd : Handler} {f : IsrCtx → State → Except Fault State}
    (hf : ∀ c, f c (g s) = (f c s).map g) (h : byHandler hd f s = .next t) :
    Machine.byHandler hd f (g s) = .next (g t) := by
  unfold Machine.byHandler at h ⊢
  rw [hg.agent, hg.isr]
  split at h
  · rename_i c ha hc
    split at h
    · rename_i hh
      simp only [hh, and_self, if_true, hf]
      exact hg.settle h
    · rename_i hh
      cases h
      simp only [hh, if_false, hg.refuse]
  · cases h
    rw [hg.refuse]

end Foreign

/-! ### The frame timer beside the capture unit -/

theorem ftTickStep_setCap (c : Capture) (s : State) : ftTickStep (s.setCap c) = (ftTickStep s).map (State.setCap c) := by
  unfold ftTickStep
  change (if s.ft.ends = true then _ else _) = _
  split <;> rfl

theorem ftIsrStep_setCap (c : Capture) (x : IsrCtx) (s : State) :
    ftIsrStep x (s.setCap c) = (ftIsrStep x s).map (State.setCap c) := by
  unfold ftIsrStep
  split
  · rfl
  · change s.ft.readPend.map _ = _
    cases s.ft.readPend <;> rfl
  · exact congrArg Except.ok ((foreign_setCap c).refuse s)

theorem execCapCntTick_setFt {s t : State} (f : FrameTimer) (h : execCapCntTick s = .next t) :
    execCapCntTick (s.setFt f) = .next (t.setFt f) :=
  (foreign_setFt f).byAgent rfl h

end Sys2Proof.Machine

namespace Sys2Proof.Statements

open Sys2Proof.Machine

/-- An operation with no capture register in its footprint keeps the capture unit. -/
theorem cap_kept_of_exec {s t : State} {i : Instr} (hi : (footprint s.units t.units i).cap = s.cap)
    (h : exec i s = .next t) : t.cap = s.cap :=
  (congrArg Units.cap (exec_effect h).units).trans hi

theorem ft_kept_of_exec {s t : State} {i : Instr} (hi : (footprint s.units t.units i).ft = s.ft)
    (h : exec i s = .next t) : t.ft = s.ft :=
  (congrArg Units.ft (exec_effect h).units).trans hi

/-- Settles O23: what is kept is the footprint, what is not read is that each body commutes with the replacement. -/
theorem timerIndependence : Obligations.TimerIndependence := fun s _ c f =>
  ⟨fun h => ⟨cap_kept_of_exec rfl h, (foreign_setCap c).byAgent (ftTickStep_setCap c s) h⟩,
    fun h => ⟨cap_kept_of_exec rfl h, (foreign_setCap c).byHandler (fun x => ftIsrStep_setCap c x s) h⟩,
    fun h => ⟨ft_kept_of_exec rfl h, execCapCntTick_setFt f h⟩⟩

end Sys2Proof.Statements

/-! # The true count over every step

R125's count as three parts, of which each step moves what its operation may: the epoch with the overflow in CAP_SR, the
overflow an active CAP_ISR has read and not yet applied, and the counter. -/

namespace Sys2Proof.Statements

open Sys2Proof.Machine Sys2Proof.Safety

variable {s t : State} {c : IsrCtx}

/-! ### The overflow a handler carries -/

/-- The overflow the interrupt context has read at μ1 of CAP_ISR and not yet applied to OVC (41_capture.md R122). -/
def carried : Option IsrCtx → Half
  | some c => if c.handler = .capIsr ∧ 2 ≤ c.mu ∧ c.mu ≤ 5 ∧ isOvf c.hSr = true then 1 else 0
  | none => 0

theorem pendingEpoch_eq (s : State) : pendingEpoch s = s.cap.epoch + carried s.isr := by
  unfold pendingEpoch carried
  cases s.isr <;> rfl

theorem trueCount_congr {x y : Half} (hcnt : t.cap.cnt = s.cap.cnt) (hx : carried t.isr = x) (hy : carried s.isr = y)
    (hepoch : t.cap.epoch + x = s.cap.epoch + y) : trueCount t = trueCount s := by
  rw [trueCount, trueCount, pendingEpoch_eq, pendingEpoch_eq, hcnt, hx, hy, hepoch]

theorem trueCount_of_cap (hcap : t.cap = s.cap) (hisr : carried t.isr = carried s.isr) : trueCount t = trueCount s :=
  trueCount_congr (by rw [hcap]) hisr rfl (by rw [hcap])

@[simp] theorem carried_none : carried none = 0 := rfl

/-- Another handler carries nothing. -/
theorem carried_of_other (h : c.handler ≠ .capIsr) : carried (some c) = 0 := if_neg fun hc => h hc.1

/-- CAP_ISR has read nothing before μ1. -/
theorem carried_of_unread (h : c.mu < 2) : carried (some c) = 0 := if_neg fun ⟨_, hmu, _⟩ => by omega

/-- CAP_ISR carries the overflow it read until μ5 has applied it. -/
theorem carried_of_read (hh : c.handler = .capIsr) (hlo : 2 ≤ c.mu) (hhi : c.mu ≤ 5) :
    carried (some c) = if isOvf c.hSr = true then 1 else 0 := by
  simp [carried, hh, hlo, hhi]

/-! ### Whoever goes on carries what it carried -/

@[simp] theorem carried_setStage (st : RbStage) : carried (s.setStage st).isr = carried s.isr := by
  obtain ⟨a, ha⟩ | ha | ⟨ha, hx⟩ | ⟨c, st', ha, hc, hcb⟩ := issuer_cases s
  · rw [setStage_of_hw ha]
  · rw [setStage_of_poll ha]
  · rw [setStage_of_handler ha hx]
  · rw [setStage_of_callback ha hc hcb, hc]; rfl

@[simp] theorem carried_advance (s : State) : carried s.advance.isr = carried s.isr := by
  obtain ⟨a, ha⟩ | ha | ⟨ha, hx⟩ | ⟨c, st, ha, hc, hcb⟩ := issuer_cases s
  · rw [advance_of_hw ha]
  · rw [advance_of_poll ha]
  · rw [advance_of_handler ha hx]
  · rw [advance_of_callback ha hc hcb, hc]; rfl

@[simp] theorem carried_complete (r : Result) : carried (s.complete r).isr = carried s.isr :=
  carried_advance (s.observe (.result s.agent r))

@[simp] theorem carried_refuse : carried s.refuse.isr = carried s.isr :=
  carried_advance { s with refused := true }

/-! ### The operations but CAP_ISR -/

theorem putStep_carried {i : Nat} (h : putStep i s = .ok t) : carried t.isr = carried s.isr := by
  have hbegin : putBegin i s = .ok t → carried t.isr = carried s.isr := fun h => by
    obtain ⟨r, -, h⟩ := unitAt_bind_ok h
    dsimp only at h
    split at h <;> cases h <;> simp
  unfold putStep at h
  split at h
  · obtain ⟨r, -, h⟩ := unitAt_bind_ok h
    obtain ⟨r', -, h⟩ := bind_ok h
    cases h
    simp
  · obtain ⟨r, -, h⟩ := unitAt_bind_ok h
    cases h
    simp
  all_goals exact hbegin h

theorem getStep_carried {i : Nat} (h : getStep i s = .ok t) : carried t.isr = carried s.isr := by
  have hbegin : getBegin i s = .ok t → carried t.isr = carried s.isr := fun h => by
    obtain ⟨r, -, h⟩ := unitAt_bind_ok h
    split at h <;> cases h <;> simp
  unfold getStep at h
  split at h
  · obtain ⟨r, -, h⟩ := unitAt_bind_ok h
    obtain ⟨v, -, h⟩ := bind_ok h
    cases h
    simp
  · obtain ⟨r, -, h⟩ := unitAt_bind_ok h
    cases h
    simp
  all_goals exact hbegin h

theorem setAlignmentStep_carried {i : Nat} {n : Half} (h : setAlignmentStep i n s = .ok t) :
    carried t.isr = carried s.isr := by
  obtain ⟨r, -, h⟩ := unitAt_bind_ok h
  cases h
  simp

theorem realignStep_carried {i : Nat} (h : realignStep i s = .ok t) : carried t.isr = carried s.isr := by
  obtain ⟨r, -, h⟩ := unitAt_bind_ok h
  split at h <;> cases h
  simp

/-- An operation on a ring or a realigner carries on what its body does. -/
theorem bySide_carried {p : Prop} [Decidable p] {side : Option Ctx} {f : State → Except Fault State}
    (hf : f s = .ok t → carried t.isr = carried s.isr)
    (h : (if p then bySide side f s else .next s.refuse) = .next t) : carried t.isr = carried s.isr := by
  split at h
  · rcases bySide_cases h with ⟨-, h⟩ | ⟨-, r, -, rfl⟩ | ⟨-, rfl⟩
    · exact hf h
    · rfl
    · exact carried_refuse
  · cases h
    exact carried_refuse

/-- Another handler carries nothing before and after its own step. -/
theorem carried_eq_of_other {c' : IsrCtx} (hne : c.handler ≠ .capIsr) (h : c'.handler = c.handler) :
    carried (some c') = carried (some c) := by
  rw [carried_of_other hne, carried_of_other (h ▸ hne)]

/-- A handler's word carries on what its micro-step does. -/
theorem byHandler_carried {hd : Handler} {f : IsrCtx → State → Except Fault State}
    (hf : ∀ c, s.isr = some c → c.handler = hd → f c s = .ok t → carried t.isr = carried s.isr)
    (h : byHandler hd f s = .next t) : carried t.isr = carried s.isr := by
  rcases byHandler_cases h with ⟨c, -, hc, hh, -, h | ⟨r, -, rfl⟩⟩ | rfl
  · exact hf c hc hh h
  · rfl
  · exact carried_refuse

theorem xchIsrStep_carried {d : Dir} (hs : s.isr = some c) (hh : c.handler = .xchIsr d) (h : xchIsrStep d c s = .ok t) :
    carried t.isr = carried s.isr := by
  have hne : c.handler ≠ .capIsr := by simp [hh]
  have hgo : ∀ (u : State) (c' : IsrCtx), c'.handler = c.handler → carried (u.setIsr c').isr = carried s.isr :=
    fun _ _ he => hs ▸ carried_eq_of_other hne he
  unfold xchIsrStep at h
  split at h <;> cases h
  · exact hgo _ _ rfl
  · unfold xchPublish; dsimp only; split <;> exact hgo _ _ rfl
  · unfold xchArm; dsimp only; split <;> exact hgo _ _ rfl
  · unfold xchRestartCur; dsimp only; split <;> exact hgo _ _ rfl
  · unfold xchRestartNxt; dsimp only; split <;> exact hgo _ _ rfl
  · unfold xchCallback
    split
    · exact hgo _ _ rfl
    · rw [leaveExchange_isr, hs, carried_of_other hne, carried_none]
  · exact carried_refuse

theorem ftIsrStep_carried (hs : s.isr = some c) (hh : c.handler = .ftIsr) (h : ftIsrStep c s = .ok t) :
    carried t.isr = carried s.isr := by
  have hne : c.handler ≠ .capIsr := by simp [hh]
  unfold ftIsrStep at h
  split at h
  · cases h
    exact hs ▸ carried_eq_of_other hne rfl
  · obtain ⟨pend, -, rfl⟩ := map_ok h
    rw [leaveHandler_isr, hs, carried_of_other hne, carried_none]
  · cases h
    exact carried_refuse

theorem alignStage_carried {d : Dir} (hs : s.isr = some c) (hh : c.handler = .xchIsr d) (h : alignStage c s = .ok t) :
    carried t.isr = carried s.isr := by
  have hne : c.handler ≠ .capIsr := by simp [hh]
  have hgo : ∀ (u : State) (cb : Callback), carried (u.setIsr { c with cb := cb }).isr = carried s.isr :=
    fun _ _ => hs ▸ carried_eq_of_other hne rfl
  have hend : ∀ (u : State) (r : Result), carried (u.alignReturn c r).isr = carried s.isr := fun u r => by
    rw [State.alignReturn, leaveExchange_isr, hs, carried_of_other hne, carried_none]
  unfold alignStage at h
  split at h
  · cases h
    unfold alignCount
    dsimp only
    split
    · exact hend _ _
    · exact hgo _ _
  · obtain ⟨w0, -, rfl⟩ := map_ok h
    exact hgo _ _
  · obtain ⟨w8, -, rfl⟩ := map_ok h
    unfold alignJudge
    split
    · split
      · exact hgo _ _
      · exact hend _ _
    · exact hgo _ _
  · cases h
    exact hend _ _
  all_goals
    cases h
    exact carried_refuse

theorem execAlignStep_carried (h : execAlignStep s = .next t) : carried t.isr = carried s.isr := by
  unfold execAlignStep at h
  split at h
  · rename_i c _ hc
    split at h
    · rename_i hh
      rcases settle_cases h with h | ⟨r, -, rfl⟩
      · exact alignStage_carried hc hh h
      · rfl
    · cases h
      exact carried_refuse
  · cases h
    exact carried_refuse

theorem carried_answerAlign (s : State) (r : Result) : carried (s.answerAlign r).isr = carried s.isr := by
  unfold State.answerAlign
  split
  · rename_i c hc
    rw [hc]; rfl
  · rfl

theorem phaseStep_answerAlign_carried {dir : Nudge} (h : phaseStep dir State.answerAlign s = .ok t) :
    carried t.isr = carried s.isr := by
  obtain ⟨pend, -, h⟩ := bind_ok h
  split at h <;> cases h
  · exact carried_answerAlign s _
  · exact carried_answerAlign { s with ft := s.ft.post dir } _

theorem execPhaseRequest_carried {dir : Nudge} (ha : s.agent = .isr) (h : execPhaseRequest dir s = .next t) :
    carried t.isr = carried s.isr := by
  unfold execPhaseRequest at h
  rw [ha] at h
  dsimp only at h
  split at h
  · rcases settle_cases h with h | ⟨r, -, rfl⟩
    · exact phaseStep_answerAlign_carried h
    · rfl
  · cases h
    exact carried_refuse

/-- Only CAP_ISR changes what the interrupt context carries. -/
theorem exec_carried {i : Instr} (hne : i ≠ .capIsr) (h : exec i s = .next t) : carried t.isr = carried s.isr := by
  by_cases ha : s.agent = .isr
  · have hrefused : ¬ NamedAgent s.cfg s.agent i → carried t.isr = carried s.isr := fun hno => by
      rw [exec_of_not_namedAgent hno] at h
      cases h
      exact carried_refuse
    cases i with
    | rbPut n => exact bySide_carried putStep_carried h
    | rbGet n => exact bySide_carried getStep_carried h
    | raSetAlignment n bits => exact bySide_carried setAlignmentStep_carried h
    | raRealignFrame n => exact bySide_carried realignStep_carried h
    | capIsr => exact absurd rfl hne
    | xchIsr d => exact byHandler_carried (fun _ => xchIsrStep_carried) h
    | ftIsr => exact byHandler_carried (fun _ => ftIsrStep_carried) h
    | alignStep => exact execAlignStep_carried h
    | phaseRequest dir => exact execPhaseRequest_carried ha h
    | dmaWord d => cases d <;> exact hrefused (by simp [NamedAgent, ha])
    | _ => exact hrefused (by simp [NamedAgent, ha])
  · rw [(exec_effect h).isr ha]

/-! ### The steps without an operation word -/

/-- A handler is entered having read nothing, an external callback ends a handler that carries nothing. -/
theorem otherStep_carried (hinv : Inv s) {e : Event} (hn : s.currentOp e = none) (h : s.otherStep e = .ok t) :
    carried t.isr = carried s.isr := by
  cases e with
  | hw a o => cases h; rfl
  | poll =>
    cases h
    by_contra hne
    rcases (pollOther_effect s).isr (mt (congrArg carried) hne) with he | ⟨hd, he⟩ <;> cases he
  | dacReady =>
    cases h
    unfold State.dacReady
    split <;> rfl
  | dispatch hd =>
    cases h
    unfold State.dispatch
    split
    · rename_i hmay
      simp only [State.mayDispatch, Bool.and_eq_true, Option.isNone_iff_eq_none] at hmay
      obtain ⟨⟨hnone, -⟩, -⟩ := hmay
      rw [hnone, enterHandler_isr, carried_of_unread (show (IsrCtx.enter hd).mu < 2 by simp [IsrCtx.enter])]
      rfl
    · rfl
  | isr =>
    rcases isrOther_cases h with ⟨c, w, v, m, -, -, -, -, rfl⟩ | rfl | ⟨c, hc, rfl⟩ | rfl
    · exact carried_advance _
    · exact carried_refuse
    · obtain ⟨st, hcb⟩ := isrOp_none (s := s) (c := c) (by simpa [State.currentOp, hc] using hn)
      obtain ⟨d, hh⟩ := (hinv.isr c hc).handler_of_callback (by simp [hcb])
      rw [State.endCallback, leaveExchange_isr, hc, carried_of_other (by simp [hh]), carried_none]
    · rfl

/-- Over every step of a state of the invariant only CAP_ISR changes what the interrupt context carries. -/
theorem step_carried (hinv : Inv s) (hs : step s = .next t) (hno : ¬ Ran s .capIsr) : carried t.isr = carried s.isr := by
  rcases (step_cases hs).2 with h | rfl
  · rcases stepEvent_cases h with ⟨a, o, i, hop, hi, h⟩ | ⟨a, o, -, rfl⟩ | ⟨hn, h⟩
    · rw [currentOp_takeEvent] at hop
      have hne : i ≠ .capIsr := fun he => hno ⟨a, o, hop, he ▸ hi⟩
      exact exec_carried (s := s.takeEvent.issue a o) hne h
    · exact carried_refuse
    · rcases settle_cases h with h | ⟨r, -, rfl⟩
      · exact otherStep_carried (s := s.takeEvent) hinv.takeEvent hn h
      · rfl
  · rfl

/-! ### CAP_ISR -/

/-- μ1 moves the overflow from CAP_SR to the handler. -/
theorem epoch_status (cap : Capture) :
    ({ cap with sr := clearRead cap.sr cap.sr } : Capture).epoch + (if isOvf cap.sr = true then 1 else 0) = cap.epoch := by
  simp [Capture.epoch, isOvf]

/-- μ5 moves the overflow from the handler to OVC. -/
theorem epoch_publish (cap : Capture) (c : IsrCtx) :
    (cap.publish c).epoch = cap.epoch + if isOvf c.hSr = true then 1 else 0 := by
  by_cases h : isOvf c.hSr = true
  · simp [Capture.epoch, Capture.publish, h, BitVec.add_assoc, BitVec.add_comm 1#16]
  · simp [Capture.epoch, Capture.publish, h]

/-- R125: every micro-step of CAP_ISR keeps the true count. -/
theorem capIsrStep_trueCount (hc : s.isr = some c) (hh : c.handler = .capIsr) (h : capIsrStep c s = .ok t) :
    trueCount t = trueCount s := by
  have hgo : ∀ c' : IsrCtx, c'.handler = .capIsr → c'.hSr = c.hSr → 2 ≤ c.mu ∧ c.mu ≤ 5 → 2 ≤ c'.mu ∧ c'.mu ≤ 5 →
      trueCount (s.setIsr c') = trueCount s := fun c' hh' hsr ⟨hlo, hhi⟩ ⟨hlo', hhi'⟩ =>
    trueCount_of_cap rfl (by rw [setIsr_isr, hc, carried_of_read hh' hlo' hhi', carried_of_read hh hlo hhi, hsr])
  unfold capIsrStep at h
  split at h
  · cases h
    refine trueCount_congr (y := 0) rfl (carried_of_read hh (by simp) (by simp)) (hc ▸ carried_of_unread (by omega)) ?_
    exact (epoch_status s.cap).trans (add_zero _).symm
  · cases h
    exact hgo _ hh rfl (by omega) (by simp)
  · split at h
    · obtain ⟨v, -, rfl⟩ := map_ok h
      exact hgo _ hh rfl (by omega) (by simp)
    · cases h
      exact hgo _ hh rfl (by omega) (by simp)
  · split at h
    · obtain ⟨v, -, rfl⟩ := map_ok h
      exact hgo _ hh rfl (by omega) (by simp)
    · cases h
      exact hgo _ hh rfl (by omega) (by simp)
  · cases h
    refine trueCount_congr (x := 0) rfl rfl (hc ▸ carried_of_read hh (by omega) (by omega)) ?_
    exact (add_zero _).trans (epoch_publish s.cap c)
  · cases h
    exact trueCount_of_cap (by simp) carried_refuse

theorem exec_capIsr_trueCount (h : exec .capIsr s = .next t) : trueCount t = trueCount s := by
  rcases byHandler_cases h with ⟨c, -, hc, hh, -, h | ⟨r, -, rfl⟩⟩ | rfl
  · exact capIsrStep_trueCount hc hh h
  · rfl
  · exact trueCount_of_cap (by simp) carried_refuse

/-! ### CAP_CNT_TICK and CAP_EDGE -/

/-- A tick that loses no overflow counts one. -/
theorem exec_capCntTick_trueCount (ha : s.agent = .hw .capcnt) (hp1 : ¬ (s.cap.cnt = 0xFFFF ∧ isOvf s.cap.sr = true))
    (h : exec .capCntTick s = .next t) : trueCount t = trueCount s + 1 := by
  rw [exec_capCntTick_of ha] at h
  cases h
  have hepoch : s.cap.tick.epoch + carried s.isr =
      if s.cap.cnt + 1 = 0 then s.cap.epoch + carried s.isr + 1 else s.cap.epoch + carried s.isr := by
    rw [epoch_tick hp1]
    split
    · exact add_right_comm _ _ _
    · rfl
  rw [trueCount, trueCount, pendingEpoch_eq, pendingEpoch_eq, ← append_succ, ← hepoch]
  rfl

theorem exec_capEdge_trueCount {kind : EdgeKind} (h : exec (.capEdge kind) s = .next t) : trueCount t = trueCount s := by
  by_cases ha : s.agent = .hw .capcnt
  · rw [exec_capEdge_of ha] at h
    cases h
    exact trueCount_congr (cnt_edge _ _) rfl rfl (congrArg (· + carried s.isr) (epoch_edge _ _))
  · rw [exec_of_not_namedAgent (i := .capEdge kind) ha] at h
    cases h
    exact trueCount_of_cap (by simp) carried_refuse

/-! ### Every step -/

theorem currentOp_hw {e : Event} {a : HwAgent} {o : IssuedOp} (h : s.currentOp e = some (.hw a, o)) : e = .hw a o := by
  cases e with
  | hw b p => simpa [State.currentOp] using h
  | isr => simp [State.currentOp, Option.bind_eq_some_iff] at h
  | _ => simp [State.currentOp] at h

/-- A step that runs none of the capture operations with a hand in the count. -/
theorem trueCount_kept (hinv : Inv s) (hs : step s = .next t) (htick : ¬ Ran s .capCntTick)
    (hedge : ¬ ∃ kind, Ran s (.capEdge kind)) (hisr : ¬ Ran s .capIsr) : trueCount t = trueCount s := by
  obtain ⟨w, hw, hu⟩ := step_wrote hs
  have hcnt : t.cap.cnt = s.cap.cnt := by_contra fun hne => htick (cnt_written hw hu hne)
  have hsr : t.cap.sr = s.cap.sr := by_contra fun hne =>
    (capSr_written hw hu hne).elim htick fun h => h.elim hedge hisr
  have hovc : t.cap.ovc = s.cap.ovc := by_contra fun hne => hisr (timestamps_written hw hu (.inl hne))
  refine trueCount_congr hcnt (step_carried hinv hs hisr) rfl ?_
  rw [Capture.epoch, Capture.epoch, hsr, hovc]

/-- Settles O32: the three operations with a hand in the count one by one, every other step by its writers. -/
theorem trueCountAdvances : Obligations.TrueCountAdvances := by
  intro s t hinv hs
  refine ⟨fun o hev hword hp1 => ?_, fun hno => ?_⟩
  · have hop : s.currentOp s.nextEvent = some (.hw .capcnt, o) := by rw [hev]; rfl
    obtain ⟨a, o', hop', -, hx⟩ := exec_of_ran hinv hs ⟨_, o, hop, hword⟩
    obtain ⟨rfl, rfl⟩ := Prod.mk.inj (Option.some.inj (hop.symm.trans hop'))
    exact exec_capCntTick_trueCount (s := s.takeEvent.issue (.hw .capcnt) o) rfl hp1 hx
  · by_cases hisr : Ran s .capIsr
    · obtain ⟨a, o, -, -, hx⟩ := exec_of_ran hinv hs hisr
      exact exec_capIsr_trueCount (s := s.takeEvent.issue a o) hx
    by_cases hedge : ∃ kind, Ran s (.capEdge kind)
    · obtain ⟨kind, hran⟩ := hedge
      obtain ⟨a, o, -, -, hx⟩ := exec_of_ran hinv hs hran
      exact exec_capEdge_trueCount (s := s.takeEvent.issue a o) hx
    by_cases htick : Ran s .capCntTick
    · obtain ⟨a, o, hop, hword, hx⟩ := exec_of_ran hinv hs htick
      have hissuer : ¬ NamedAgent s.cfg a .capCntTick := fun ha => hno o (currentOp_hw (ha ▸ hop)) hword
      rw [exec_of_not_namedAgent (s := s.takeEvent.issue a o) hissuer] at hx
      cases hx
      exact trueCount_of_cap (by simp) carried_refuse
    exact trueCount_kept hinv hs htick hedge hisr

end Sys2Proof.Statements

/-! # STEER_PULSE: what each pulse does

One equation per branch of 42_steering.md R140: the gate, then the pulse of each steering state with the registers it
reads written. -/

namespace Sys2Proof.Machine

open Sys2Proof.Statements

variable {s : State} {p : Params} {v v' : Servo} {ts : Word} {x : Int} {r : Result} {st : Steering} {value : Word}

/-! ### Values -/

/-- The DAC word is below 2^12 by its upper clamp; the lower one never acts (42_steering.md R158). -/
theorem dacWord_eq_dacOutput (p : Params) (value : Word) : dacWord p value = dacOutput p value := by
  have hclamp : (clampInt (value >>> p.dacShift).toNat 0 Config.dacMaxVal).toNat = min (value.toNat >>> p.dacShift) 4095 := by
    rw [clampInt, max_eq_left (Int.natCast_nonneg _), ← Nat.cast_min, Int.toNat_natCast, BitVec.toNat_ushiftRight]
    rfl
  rw [dacWord, hclamp, dacOutput]

/-- A calibration accumulator after a pulse with offset `x` (42_steering.md R145). -/
def accumulated (p : Params) (count acc : Word) (x : Int) : Word :=
  if count.toNat ≤ p.periods then stored (acc.toInt + x) else acc

theorem reg_of_val_of_written {α : Type} {q : Reg α} (h : q.written = true) : Reg.of q.val = q := by
  cases q
  cases h
  rfl

theorem accumulate_of_written {acc : Reg Word} (h : acc.written = true) :
    accumulate p st acc x = .ok (Reg.of (accumulated p st.count acc.val x)) := by
  rw [accumulate, accumulates, accumulated]
  by_cases hn : st.count.toNat ≤ p.periods
  · simp only [hn, decide_true, if_true, reg_read_written h]
    rfl
  · simp [hn, reg_of_val_of_written h]

/-! ### The gate (42_steering.md R141) -/

/-- What a pulse finds: the steering registers with the gate's write, no DAC word. -/
def State.gated (s : State) : Servo :=
  { st := { s.steer with lastTick := s.portB }, stats := s.stats, dac := none }

theorem gateAccepts_iff {tick : Word} : gateAccepts p st tick = true ↔
    p.gateMin ≤ (tick - st.lastTick).toNat ∧ (tick - st.lastTick).toNat ≤ p.gateMax :=
  decide_eq_true_iff

theorem exec_steerPulse_of (ha : s.agent = .poll)
    (h : steerPulse s.cfg s.portA.word s.portB { st := s.steer, stats := s.stats, dac := none } = .ok (v, r)) :
    exec .steerPulse s = .next (s.endPulse v r) := by
  change byAgent .poll steerStep s = _
  rw [byAgent_of _ ha, steerStep, State.tsOperand, State.tickOperand, h]
  rfl

/-- A pulse outside the gate goes no further than it. -/
theorem exec_steerPulse_refused (ha : s.agent = .poll)
    (h : ¬ (s.cfg.gateMin ≤ (s.portB - s.steer.lastTick).toNat ∧ (s.portB - s.steer.lastTick).toNat ≤ s.cfg.gateMax)) :
    exec .steerPulse s = .next (s.endPulse (lossPulse s.cfg s.portA.word s.gated) .lossOfPPS) :=
  exec_steerPulse_of ha (if_neg (mt gateAccepts_iff.mp h))

theorem exec_steerPulse_accepted (hg : GateOpen s) (h : acceptedPulse s.cfg s.portA.word s.gated = .ok (v, r)) :
    exec .steerPulse s = .next (s.endPulse v r) := by
  obtain ⟨ha, hgate⟩ := hg
  exact exec_steerPulse_of ha ((if_pos (gateAccepts_iff.mpr hgate)).trans h)

/-- An accepted pulse that writes no DAC word delivers its result. -/
theorem exec_steerPulse_quiet (hg : GateOpen s)
    (h : acceptedPulse s.cfg s.portA.word s.gated = .ok ({ st := st, stats := s.stats, dac := none }, r)) :
    exec .steerPulse s = .next (quietPulse s st r) :=
  exec_steerPulse_accepted hg h

/-- An accepted pulse that drives the DAC with `value` holds POLL. -/
theorem exec_steerPulse_driven (hg : GateOpen s)
    (h : acceptedPulse s.cfg s.portA.word s.gated =
      .ok (Servo.drive s.cfg value { st := st, stats := s.stats, dac := none }, r)) :
    exec .steerPulse s = .next (drivenPulse s st value r) := by
  rw [exec_steerPulse_accepted hg h, State.endPulse, Servo.drive, dacWord_eq_dacOutput]
  rfl

/-! ### The pulse by the steering state (42_steering.md R140) -/

theorem acceptedPulse_init (h : v.st.state = 0) (hv : initPulse p ts v = v') : acceptedPulse p ts v = .ok (v', .ok .unit) := by
  rw [acceptedPulse, h, ← hv]; rfl

theorem acceptedPulse_calMin (h : v.st.state = 1) : acceptedPulse p ts v = calMinPulse p ts (offsetOf p v.st ts) v := by
  rw [acceptedPulse, h]; rfl

theorem acceptedPulse_calMax (h : v.st.state = 2) : acceptedPulse p ts v = calMaxPulse p ts (offsetOf p v.st ts) v := by
  rw [acceptedPulse, h]; rfl

theorem acceptedPulse_freq (h : v.st.state = 3) (hv : freqPulse p ts (offsetOf p v.st ts) v = .ok v') :
    acceptedPulse p ts v = .ok (v', .ok .unit) := by
  rw [acceptedPulse, h]
  exact congrArg (Except.map fun w => (w, Result.ok .unit)) hv

theorem acceptedPulse_phase (h : v.st.state = 4) (hv : phasePulse p (offsetOf p v.st ts) v = .ok v') :
    acceptedPulse p ts v = .ok (v', .ok .unit) := by
  rw [acceptedPulse, h]
  exact congrArg (Except.map fun w => (w, Result.ok .unit)) hv

/-! ### Init (42_steering.md R144) -/

theorem initPulse_of_more (hn : v.st.count ≠ 1) :
    initPulse p ts v = { v with st := { v.st with lastRef := ts, count := v.st.count - 1 } } :=
  if_neg (mt sub_eq_zero.mp hn)

theorem initPulse_of_calibrated (hn : v.st.count = 1) (hcal : isHasCal v.st.flags = true) :
    initPulse p ts v = (v.snap ts).enterFreq p :=
  (if_pos (sub_eq_zero.mpr hn)).trans (if_pos hcal)

theorem initPulse_of_uncalibrated (hn : v.st.count = 1) (hcal : isHasCal v.st.flags = false) :
    initPulse p ts v = (v.snap ts).enterCalMin p :=
  (if_pos (sub_eq_zero.mpr hn)).trans (if_neg (ne_true_of_eq_false hcal))

/-! ### Calibration (42_steering.md R145–R147, R151) -/

/-- The registers a CalibrateMin pulse leaves before it enters anything. -/
def calMinCounted (p : Params) (ts : Word) (x : Int) (st : Steering) : Steering :=
  { st with lastRef := ts, minOffset := Reg.of (accumulated p st.count st.minOffset.val x), count := st.count - 1 }

/-- The registers a CalibrateMax pulse leaves before it ends the calibration. -/
def calMaxCounted (p : Params) (ts : Word) (x : Int) (st : Steering) : Steering :=
  { st with lastRef := ts, maxOffset := Reg.of (accumulated p st.count st.maxOffset.val x), count := st.count - 1 }

theorem calMinPulse_of_written (hw : v.st.minOffset.written = true) :
    calMinPulse p ts x v = .ok (if v.st.count - 1 = 0 then Servo.enterCalMax p { v with st := calMinCounted p ts x v.st }
      else { v with st := calMinCounted p ts x v.st }, .ok .unit) := by
  have hacc : accumulate p (v.snap ts).st (v.snap ts).st.minOffset x =
      .ok (Reg.of (accumulated p v.st.count v.st.minOffset.val x)) := accumulate_of_written hw
  rw [calMinPulse, hacc]
  rfl

theorem calMinPulse_of_more (hw : v.st.minOffset.written = true) (hn : v.st.count ≠ 1) :
    calMinPulse p ts x v = .ok ({ v with st := calMinCounted p ts x v.st }, .ok .unit) := by
  rw [calMinPulse_of_written hw, if_neg (mt sub_eq_zero.mp hn)]

theorem calMinPulse_of_last (hw : v.st.minOffset.written = true) (hn : v.st.count = 1) :
    calMinPulse p ts x v = .ok (Servo.enterCalMax p { v with st := calMinCounted p ts x v.st }, .ok .unit) := by
  rw [calMinPulse_of_written hw, if_pos (sub_eq_zero.mpr hn)]

theorem calMaxPulse_of_written (hw : v.st.maxOffset.written = true) :
    calMaxPulse p ts x v = if v.st.count - 1 = 0 then finishCalibration p { v with st := calMaxCounted p ts x v.st }
      else .ok ({ v with st := calMaxCounted p ts x v.st }, .ok .unit) := by
  have hacc : accumulate p (v.snap ts).st (v.snap ts).st.maxOffset x =
      .ok (Reg.of (accumulated p v.st.count v.st.maxOffset.val x)) := accumulate_of_written hw
  rw [calMaxPulse, hacc]
  rfl

theorem calMaxPulse_of_more (hw : v.st.maxOffset.written = true) (hn : v.st.count ≠ 1) :
    calMaxPulse p ts x v = .ok ({ v with st := calMaxCounted p ts x v.st }, .ok .unit) := by
  rw [calMaxPulse_of_written hw, if_neg (mt sub_eq_zero.mp hn)]

/-- The last CalibrateMax pulse accumulates where PERIODS is at least 1, and ends the calibration. -/
theorem calMaxPulse_of_last {mx : Word} (hw : v.st.maxOffset.written = true) (hn : v.st.count = 1) (hp : 1 ≤ p.periods)
    (hmx : mx = stored (v.st.maxOffset.val.toInt + x)) :
    calMaxPulse p ts x v =
      finishCalibration p { v with st := { v.st with lastRef := ts, maxOffset := Reg.of mx, count := 0 } } := by
  have hacc : accumulated p 1 v.st.maxOffset.val x = mx := (if_pos hp).trans hmx.symm
  rw [calMaxPulse_of_written hw, if_pos (sub_eq_zero.mpr hn), calMaxCounted, hn, hacc]
  rfl

theorem finishCalibration_of_straddling (hmin : v.st.minOffset.written = true) (hmax : v.st.maxOffset.written = true)
    (h : v.st.minOffset.val.toInt < 0 ∧ 0 < v.st.maxOffset.val.toInt) :
    finishCalibration p v = .ok (calAccept p v.st.minOffset.val.toInt v.st.maxOffset.val.toInt v, .ok .unit) := by
  rw [finishCalibration, reg_read_written hmin, reg_read_written hmax]
  exact if_pos h

theorem finishCalibration_of_not_straddling (hmin : v.st.minOffset.written = true) (hmax : v.st.maxOffset.written = true)
    (h : ¬ (v.st.minOffset.val.toInt < 0 ∧ 0 < v.st.maxOffset.val.toInt)) :
    finishCalibration p v = .ok (calRefuse p v, .calibrationPreconditionViolated) := by
  rw [finishCalibration, reg_read_written hmin, reg_read_written hmax]
  exact if_neg h

/-- A refused calibration leaves CAL_ERR alone set. -/
theorem refused_flags (f : BitVec 2) : (f ||| flagCalErr) &&& ~~~flagHasCal = 0b10 := by revert f; decide

theorem calRefuse_eq (p : Params) (v : Servo) :
    calRefuse p v =
      { v with
        st := { v.st with flags := 0b10, state := 0, count := p.initDiscard }
        stats := { v.stats with calFail := v.stats.calFail + 1 } } := by
  rw [calRefuse, refused_flags]
  rfl

/-! ### Discipline (42_steering.md R152–R155) -/

/-- The DAC value of a correction that stores `center` in DAC_CENTER, `d` being offset times slope (42_steering.md R154). -/
def correctedOutput (p : Params) (center : Word) (d : Int) : Word :=
  stored (clampDac p (center.toInt - (d * 3).tdiv 4))

section Correction

variable {center count : Word} {d : Int} (hs : v.st.slope.written = true) (hc : v.st.dacCenter.written = true)
  (hd : d = x * v.st.slope.val.toInt) (hcenter : center = stored (v.st.dacCenter.val.toInt - d.tdiv 4))
include hs hc hd hcenter

theorem correct_of_written :
    correct p x v =
      .ok (Servo.drive p (correctedOutput p center d) { v with st := { v.st with dacCenter := Reg.of center } }) := by
  subst hcenter hd
  rw [correct, reg_read_written hs, reg_read_written hc]
  rfl

/-- FreqDiscipline is left where the settle counter reaches 0, its value then. -/
theorem freqPulse_of_written (hstate : v.st.state = 3) (hcount : count = settleCount p x v.st.count) :
    freqPulse p ts x v =
      .ok (Servo.drive p (correctedOutput p center d)
        { v with
          st := { v.st with
            lastRef := ts, dacCenter := Reg.of center, count := count, state := if count = 0 then 4 else 3 } }) := by
  have hcorrect := correct_of_written (p := p)
    (v := { v with st := { v.st with lastRef := ts, count := settleCount p x v.st.count } }) hs hc hd hcenter
  have hpulse := congrArg (· >>= fun w => Except.ok (if w.st.count = 0 then w.enterPhase else w)) hcorrect
  subst hcount
  by_cases hz : settleCount p x v.st.count = 0
  · refine hpulse.trans (congrArg Except.ok ((if_pos hz).trans ?_))
    rw [if_pos hz, hz]
    rfl
  · refine hpulse.trans (congrArg Except.ok ((if_neg hz).trans ?_))
    rw [if_neg hz, ← hstate]

theorem phasePulse_of_written (hstate : v.st.state = 4) :
    phasePulse p x v =
      .ok (Servo.drive p (correctedOutput p center d)
        { v with
          st := { v.st with
            lastRef := v.st.lastRef + p.nominalInterval, dacCenter := Reg.of center
            state := if p.phaseLossThresh < x.natAbs then 3 else 4
            count := if p.phaseLossThresh < x.natAbs then p.settle else v.st.count } }) := by
  have hcorrect := correct_of_written (p := p)
    (v := { v with st := { v.st with lastRef := v.st.lastRef + p.nominalInterval } }) hs hc hd hcenter
  have hpulse := congrArg
    (· >>= fun w => Except.ok (if p.phaseLossThresh < x.natAbs then w.enterFreq p else w)) hcorrect
  refine hpulse.trans (congrArg Except.ok ?_)
  by_cases hloss : p.phaseLossThresh < x.natAbs
  · rw [if_pos hloss, if_pos hloss, if_pos hloss]
    rfl
  · rw [if_neg hloss, if_neg hloss, if_neg hloss, ← hstate]

end Correction

end Sys2Proof.Machine

namespace Sys2Proof.Statements

open Sys2Proof.Machine

/-- Settles O35: the gate refuses, `lossPulse` is the effect. -/
theorem pulseRefused : Obligations.PulseRefused := fun _ ha hgate => exec_steerPulse_refused ha hgate

/-- Settles O36: the last pulse is the one at ST_COUNT 1, and leaves by HAS_CAL. -/
theorem initPulse : Obligations.InitPulse := fun s hg hstate =>
  ⟨fun hn => exec_steerPulse_quiet hg (acceptedPulse_init (v := s.gated) hstate (initPulse_of_more hn)),
    fun hn hcal => exec_steerPulse_quiet hg (acceptedPulse_init (v := s.gated) hstate (initPulse_of_calibrated hn hcal)),
    fun hn hcal => exec_steerPulse_driven hg
      (acceptedPulse_init (v := s.gated) hstate (initPulse_of_uncalibrated hn hcal))⟩

/-- Settles O37: the accumulator of R145, and on the last pulse CalibrateMax entered with it. -/
theorem calMinPulse : Obligations.CalMinPulse := fun s hg hstate hw =>
  have hpulse := acceptedPulse_calMin (p := s.cfg) (ts := s.portA.word) (v := s.gated) hstate
  ⟨_, rfl, fun hn => exec_steerPulse_quiet hg (hpulse.trans (calMinPulse_of_more hw hn)),
    fun hn => exec_steerPulse_driven hg (hpulse.trans (calMinPulse_of_last hw hn))⟩

/-- Settles O38: a CalibrateMax pulse before the last one. -/
theorem calMaxPulse : Obligations.CalMaxPulse := fun s hg hstate hw hn =>
  exec_steerPulse_quiet hg ((acceptedPulse_calMax (v := s.gated) hstate).trans (calMaxPulse_of_more hw hn))

/-- Settles O39: the last CalibrateMax pulse, its precondition met. -/
theorem calibrationAccepted : Obligations.CalibrationAccepted := by
  intro s mx slope center mn hg hstate hn hp hmin hmax hmn hmx hneg hpos hslope hcenter
  subst hmn hslope hcenter
  have hlast := (acceptedPulse_calMax (v := s.gated) hstate).trans (calMaxPulse_of_last hmax hn hp hmx)
  exact exec_steerPulse_driven hg (hlast.trans (finishCalibration_of_straddling hmin rfl ⟨hneg, hpos⟩))

/-- Settles O40: the last CalibrateMax pulse, its precondition not met. -/
theorem calibrationRefused : Obligations.CalibrationRefused := by
  intro s mx mn hg hstate hn hp hmin hmax hmn hmx hno
  subst hmn
  have hlast := (acceptedPulse_calMax (v := s.gated) hstate).trans (calMaxPulse_of_last hmax hn hp hmx)
  rw [exec_steerPulse_accepted hg (hlast.trans (finishCalibration_of_not_straddling hmin rfl hno)), calRefuse_eq]
  rfl

/-- Settles O41: the settle counter, the correction, and PhaseDiscipline entered where the counter is 0. -/
theorem freqPulse : Obligations.FreqPulse := fun s _ _ _ hg hstate hslope hc hcount hp hcenter =>
  exec_steerPulse_driven hg
    (acceptedPulse_freq (v := s.gated) hstate (freqPulse_of_written hslope hc hp hcenter hstate hcount))

/-- Settles O42: the reference's advance, the correction, and FreqDiscipline entered past the threshold. -/
theorem phasePulse : Obligations.PhasePulse := fun s _ _ hg hstate hslope hc hp hcenter =>
  exec_steerPulse_driven hg
    (acceptedPulse_phase (v := s.gated) hstate (phasePulse_of_written hslope hc hp hcenter hstate))

end Sys2Proof.Statements

/-! # The steering loop over every step

What a pulse may do to ST_STATE, ST_FLAGS, SLOPE and DAC_CENTER (42_steering.md R149, R151, R161), and with it every step of
the machine; the anomaly reset of R164 as a run of three pulses. -/

namespace Sys2Proof.Machine

open Sys2Proof.Statements

variable {s t : State} {p : Params} {v v' : Servo} {ts tick : Word} {x : Int} {r : Result}

/-! ### The moves of the loop -/

/-- The registers R149, R151 and R161 speak of, with the count of lost pulses. -/
structure Loop where
  state : BitVec 3
  flags : BitVec 2
  slope : Reg Word
  dacCenter : Reg Word
  ppsLoss : Word

/-- The loop's part of the steering registers and the statistics. -/
def Loop.of (st : Steering) (stats : Stats) : Loop :=
  { state := st.state, flags := st.flags, slope := st.slope, dacCenter := st.dacCenter, ppsLoss := stats.ppsLoss }

/-- The loop of a servo. -/
def Servo.loop (v : Servo) : Loop := .of v.st v.stats

/-- The loop of a state. -/
def State.loop (s : State) : Loop := .of s.steer s.stats

/-- ST_STATE stays, goes to Init, or along one of the edges of R140 and R157. -/
def SteerEdge (a b : BitVec 3) : Prop :=
  b = a ∨ b = 0 ∨ (a = 0 ∧ (b = 1 ∨ b = 3)) ∨ (a = 1 ∧ b = 2) ∨ (a = 2 ∧ b = 3) ∨
    (a = 3 ∧ b = 4) ∨ (a = 4 ∧ b = 3)

/-- What a step of any agent may do to the loop. -/
inductive LoopMove (a b : Loop) : Prop where
  /-- SLOPE and DAC_CENTER stay: every pulse but the two below, and every step that is no pulse -/
  | kept (hslope : b.slope = a.slope) (hcenter : b.dacCenter = a.dacCenter)
      (herr : isCalErr a.flags = true → isCalErr b.flags = true) (hedge : SteerEdge a.state b.state)
  /-- a correction (R154) in a discipline state -/
  | corrected (hslope : b.slope = a.slope) (hflags : b.flags = a.flags) (hloss : b.ppsLoss = a.ppsLoss)
      (hfrom : a.state = 3 ∨ a.state = 4) (hto : b.state = 3 ∨ b.state = 4)
  /-- the end of a calibration (R147) -/
  | calibrated (hflags : b.flags = a.flags ||| flagHasCal) (hloss : b.ppsLoss = a.ppsLoss)
      (hfrom : a.state = 2) (hto : b.state = 3)

theorem isCalErr_or (f g : BitVec 2) : isCalErr (f ||| g) = (isCalErr f || isCalErr g) := BitVec.getLsbD_or

namespace LoopMove

variable {a b : Loop}

theorem refl (a : Loop) : LoopMove a a := .kept rfl rfl id (.inl rfl)

theorem of_eq (h : b = a) : LoopMove a b := h ▸ refl a

theorem edge (h : LoopMove a b) : SteerEdge a.state b.state := by
  cases h with
  | kept _ _ _ hedge => exact hedge
  | calibrated _ _ hfrom hto => simp [SteerEdge, hfrom, hto]
  | corrected _ _ _ hfrom hto =>
    rcases hfrom with hfrom | hfrom <;> rcases hto with hto | hto <;> simp [SteerEdge, hfrom, hto]

theorem calErr (h : LoopMove a b) (herr : isCalErr a.flags = true) : isCalErr b.flags = true := by
  cases h with
  | kept _ _ hkept => exact hkept herr
  | corrected _ hflags => rwa [hflags]
  | calibrated hflags => rw [hflags, isCalErr_or, herr, Bool.true_or]

/-- SLOPE is written only where a calibration ends. -/
theorem slope_ne (h : LoopMove a b) (hne : b.slope ≠ a.slope) : a.state = 2 ∧ b.state = 3 := by
  cases h with
  | kept hslope => exact absurd hslope hne
  | corrected hslope => exact absurd hslope hne
  | calibrated _ _ hfrom hto => exact ⟨hfrom, hto⟩

/-- DAC_CENTER is written only where a calibration ends and in the discipline states. -/
theorem dacCenter_ne (h : LoopMove a b) (hne : b.dacCenter ≠ a.dacCenter) :
    a.state = 2 ∧ b.state = 3 ∨ a.state = 3 ∨ a.state = 4 := by
  cases h with
  | kept _ hcenter => exact absurd hcenter hne
  | corrected _ _ _ hfrom => exact .inr hfrom
  | calibrated _ _ hfrom hto => exact .inl ⟨hfrom, hto⟩

/-- A lost pulse and a return to Init write neither SLOPE nor DAC_CENTER. -/
theorem kept_of_restart (h : LoopMove a b) (hrestart : b.ppsLoss ≠ a.ppsLoss ∨ b.state = 0) :
    b.slope = a.slope ∧ b.dacCenter = a.dacCenter := by
  cases h with
  | kept hslope hcenter => exact ⟨hslope, hcenter⟩
  | corrected _ _ hloss _ hto =>
    have hinit : b.state = 0 := hrestart.resolve_left (not_not_intro hloss)
    rw [hinit] at hto
    exact absurd hto (by decide)
  | calibrated _ hloss _ hto =>
    have hinit : b.state = 0 := hrestart.resolve_left (not_not_intro hloss)
    rw [hinit] at hto
    exact absurd hto (by decide)

end LoopMove

/-! ### The pulses -/

theorem isCalErr_refused (f : BitVec 2) : isCalErr ((f ||| flagCalErr) &&& ~~~flagHasCal) = true := by
  rw [refused_flags]; rfl

theorem initPulse_moves (h : v.st.state = 0) : LoopMove v.loop (initPulse p ts v).loop := by
  unfold initPulse
  dsimp only
  split
  · split
    · exact .kept rfl rfl id (.inr (.inr (.inl ⟨h, .inr rfl⟩)))
    · exact .kept rfl rfl id (.inr (.inr (.inl ⟨h, .inl rfl⟩)))
  · exact .refl _

theorem calMinPulse_moves (h : calMinPulse p ts x v = .ok (v', r)) (hs : v.st.state = 1) : LoopMove v.loop v'.loop := by
  obtain ⟨acc, -, h⟩ := bind_ok h
  cases h
  split
  · exact .kept rfl rfl id (.inr (.inr (.inr (.inl ⟨hs, rfl⟩))))
  · exact .refl _

theorem finishCalibration_moves (h : finishCalibration p v = .ok (v', r)) (hs : v.st.state = 2) : LoopMove v.loop v'.loop := by
  obtain ⟨mn, -, h⟩ := bind_ok h
  obtain ⟨mx, -, h⟩ := bind_ok h
  split at h
  · cases h
    exact .calibrated rfl rfl hs rfl
  · cases h
    exact .kept rfl rfl (fun _ => isCalErr_refused _) (.inr (.inl rfl))

theorem calMaxPulse_moves (h : calMaxPulse p ts x v = .ok (v', r)) (hs : v.st.state = 2) : LoopMove v.loop v'.loop := by
  obtain ⟨acc, -, h⟩ := bind_ok h
  dsimp only at h
  split at h
  · have hm := finishCalibration_moves h hs
    exact hm
  · cases h
    exact .refl _

/-- A correction writes, of the loop, DAC_CENTER alone. -/
theorem correct_loop (h : correct p x v = .ok v') : v'.loop = { v.loop with dacCenter := v'.st.dacCenter } := by
  obtain ⟨slope, -, h⟩ := bind_ok h
  obtain ⟨center, -, h⟩ := bind_ok h
  cases h
  rfl

/-- A correction in a discipline state, and the state entered after it. -/
theorem LoopMove.of_correct {w : Servo} (h : correct p x v = .ok w) (hfrom : v.st.state = 3 ∨ v.st.state = 4) :
    ∀ k : BitVec 3, k = 3 ∨ k = 4 → LoopMove v.loop { w.loop with state := k } := by
  rw [correct_loop h]
  exact fun k hto => .corrected rfl rfl rfl hfrom hto

theorem freqPulse_moves (h : freqPulse p ts x v = .ok v') (hs : v.st.state = 3) : LoopMove v.loop v'.loop := by
  obtain ⟨w, hw, h⟩ := bind_ok h
  have hm := LoopMove.of_correct hw (.inl hs)
  have hstate : w.st.state = 3 := (congrArg Loop.state (correct_loop hw)).trans hs
  cases h
  split
  · exact hm 4 (.inr rfl)
  · exact hm _ (.inl hstate)

theorem phasePulse_moves (h : phasePulse p x v = .ok v') (hs : v.st.state = 4) : LoopMove v.loop v'.loop := by
  obtain ⟨w, hw, h⟩ := bind_ok h
  have hm := LoopMove.of_correct hw (.inr hs)
  have hstate : w.st.state = 4 := (congrArg Loop.state (correct_loop hw)).trans hs
  cases h
  split
  · exact hm 3 (.inl rfl)
  · exact hm _ (.inr hstate)

theorem acceptedPulse_moves (h : acceptedPulse p ts v = .ok (v', r)) : LoopMove v.loop v'.loop := by
  unfold acceptedPulse at h
  dsimp only at h
  split at h
  · rename_i hs
    cases h
    exact initPulse_moves (BitVec.eq_of_toNat_eq hs)
  · rename_i hs
    exact calMinPulse_moves h (BitVec.eq_of_toNat_eq hs)
  · rename_i hs
    exact calMaxPulse_moves h (BitVec.eq_of_toNat_eq hs)
  · rename_i hs
    obtain ⟨w, hw, h⟩ := map_ok h
    cases h
    exact freqPulse_moves hw (BitVec.eq_of_toNat_eq hs)
  · rename_i hs
    obtain ⟨w, hw, h⟩ := map_ok h
    cases h
    exact phasePulse_moves hw (BitVec.eq_of_toNat_eq hs)
  · cases h

theorem steerPulse_moves (h : steerPulse p ts tick v = .ok (v', r)) : LoopMove v.loop v'.loop := by
  unfold steerPulse at h
  dsimp only at h
  split at h
  · have hm := acceptedPulse_moves h
    exact hm
  · cases h
    exact .kept rfl rfl id (.inr (.inl rfl))

/-! ### Operations and steps -/

theorem endPulse_loop (s : State) (v : Servo) (r : Result) : (s.endPulse v r).loop = v.loop := by
  unfold State.endPulse State.loop
  dsimp only
  split
  · rw [complete_steer, complete_stats]
    rfl
  · rfl

theorem exec_steerPulse_moves (h : exec .steerPulse s = .next t) : LoopMove s.loop t.loop := by
  rcases byAgent_cases (f := steerStep) h with ⟨-, h⟩ | ⟨-, f, -, rfl⟩ | ⟨-, rfl⟩
  · obtain ⟨⟨v, r⟩, hv, rfl⟩ := map_ok h
    rw [endPulse_loop]
    exact steerPulse_moves hv
  · exact .refl _
  · exact .of_eq (by rw [State.loop, refuse_steer, refuse_stats]; rfl)

/-- A step whose word is operation `i` executes it, or records BadConfig. -/
theorem step_of_ran {i : Instr} (h : step s = .next t) (hran : Ran s i) :
    (∃ a o, exec i (s.takeEvent.issue a o) = .next t) ∨ t = s.mark .badConfig := by
  obtain ⟨a, o, hop, hi⟩ := hran
  refine (step_cases h).2.imp_left fun h => ⟨a, o, ?_⟩
  rw [stepEvent, currentOp_takeEvent, hop] at h
  exact (runWord_of_decode hi).symm.trans h

/-- Every step of every agent makes one of the moves. -/
theorem step_loopMove (h : step s = .next t) : LoopMove s.loop t.loop := by
  by_cases hran : Ran s .steerPulse
  · rcases step_of_ran h hran with ⟨a, o, h⟩ | rfl
    · exact exec_steerPulse_moves (s := s.takeEvent.issue a o) h
    · exact .refl _
  · obtain ⟨w, hw, hu⟩ := step_wrote h
    have hsteer : t.steer = s.steer := by_contra fun hne => hran (steer_written hw hu hne)
    have hloss : t.stats.ppsLoss = s.stats.ppsLoss := by_contra fun hne => hran (pulseCounts_written hw hu (.inl hne))
    exact .of_eq (by simp only [State.loop, Loop.of, hsteer, hloss])

end Sys2Proof.Machine

namespace Sys2Proof.Statements

open Sys2Proof.Machine

variable {s : State}

/-- Settles O21: who wrote, and the moves that write SLOPE or DAC_CENTER. -/
theorem slopePersists : Obligations.SlopePersists := by
  intro s t h
  obtain ⟨w, hw, hu⟩ := step_wrote h
  have hmove := step_loopMove h
  exact ⟨fun hne => ⟨steer_written hw hu (mt (congrArg Steering.slope) hne), hmove.slope_ne hne⟩,
    fun hne => ⟨steer_written hw hu (mt (congrArg Steering.dacCenter) hne), hmove.dacCenter_ne hne⟩,
    hmove.kept_of_restart⟩

/-- Settles O22: who wrote, and the edges and flags of the moves. -/
theorem steeringTransitions : Obligations.SteeringTransitions := by
  intro s t h
  obtain ⟨w, hw, hu⟩ := step_wrote h
  exact ⟨steer_written hw hu, (step_loopMove h).calErr, (step_loopMove h).edge⟩

/-! ### The anomaly reset (42_steering.md R164) -/

/-- `s` with the operands of a pulse on the ports. -/
def withPulse (s : State) (ts tick : Word) : State :=
  { s with portA := { s.portA with word := ts }, portB := tick }

theorem gateOpen_of_interval {tick : Word} (ts : Word) (ha : s.agent = .poll) (hmin : s.cfg.gateMin = 75)
    (hmax : s.cfg.gateMax = 125) (h : tick - s.steer.lastTick = 100) : GateOpen (withPulse s ts tick) :=
  ⟨ha, by simp [withPulse, h, hmin], by simp [withPulse, h, hmax]⟩

theorem exec_steerPulse_restarts (ha : s.agent = .poll)
    (h : ¬ (s.cfg.gateMin ≤ (s.portB - s.steer.lastTick).toNat ∧ (s.portB - s.steer.lastTick).toNat ≤ s.cfg.gateMax)) :
    ∃ t, exec .steerPulse s = .next t ∧ t.agent = .poll ∧ t.cfg = s.cfg ∧
      t.steer = { snapped s with state := 0, count := s.cfg.initDiscard } :=
  ⟨_, pulseRefused s ha h, (complete_agent _ _).trans ha, complete_cfg _ _, complete_steer _ _⟩

theorem exec_steerPulse_discards (hg : GateOpen s) (hstate : s.steer.state = 0) (hn : s.steer.count ≠ 1) :
    ∃ t, exec .steerPulse s = .next t ∧ t.agent = .poll ∧ t.cfg = s.cfg ∧
      t.steer = { snapped s with count := s.steer.count - 1 } :=
  ⟨_, (initPulse s hg hstate).1 hn, (complete_agent _ _).trans hg.1, complete_cfg _ _, complete_steer _ _⟩

/-- The pulse that leaves Init writes, of the registers R164 speaks of, an accumulator at most, which it clears. -/
theorem exec_steerPulse_leavesInit (hg : GateOpen s) (hstate : s.steer.state = 0) (hn : s.steer.count = 1) :
    ∃ t, exec .steerPulse s = .next t ∧ t.steer.state ≠ 0 ∧ t.steer.slope = s.steer.slope ∧
      t.steer.dacCenter = s.steer.dacCenter ∧
      (t.steer.minOffset = s.steer.minOffset ∨ t.steer.minOffset = Reg.of 0) ∧ t.steer.maxOffset = s.steer.maxOffset := by
  obtain ⟨-, hcalibrated, huncalibrated⟩ := initPulse s hg hstate
  cases hcal : s.steer.flags.getLsbD 0 with
  | true => exact ⟨_, hcalibrated hn hcal, by simp [quietPulse, snapped]⟩
  | false => exact ⟨_, huncalibrated hn hcal, by simp [drivenPulse, snapped]⟩

/-- Settles O43: the gate refuses the first pulse, Init counts the next two down from INIT_DISCARD = 2. -/
theorem anomalyReset : Obligations.AnomalyReset := by
  intro s0 ts1 ts2 ha hmin hmax hdiscard htick
  obtain ⟨s1, hx1, ha1, hcfg1, hst1⟩ := exec_steerPulse_restarts ha (by rw [htick, hmin, hmax]; decide)
  have htick1 : s0.portB + 100 - s1.steer.lastTick = 100 := by
    rw [hst1]; exact add_sub_cancel_left s0.portB 100
  have hopen1 := gateOpen_of_interval ts1 ha1 (hcfg1 ▸ hmin) (hcfg1 ▸ hmax) htick1
  have hstate1 : s1.steer.state = 0 := by rw [hst1]
  have hcount1 : s1.steer.count = 2 := by rw [hst1, ← hdiscard]
  obtain ⟨s2, hx2, ha2, hcfg2, hst2⟩ := exec_steerPulse_discards hopen1 hstate1 (ne_of_eq_of_ne hcount1 (by decide))
  have hcfg : s2.cfg = s0.cfg := hcfg2.trans hcfg1
  have hregs2 : s2.steer = { s0.steer with state := 0, count := 1, lastTick := s0.portB + 100, lastRef := ts1 } := by
    rw [hst2]
    simp [snapped, withPulse, hst1, hdiscard]
  have htick2 : s0.portB + 200 - s2.steer.lastTick = 100 := by
    rw [hregs2]; exact add_sub_add_left_eq_sub 200 100 s0.portB
  have hopen2 := gateOpen_of_interval ts2 ha2 (hcfg ▸ hmin) (hcfg ▸ hmax) htick2
  have hstate2 : s2.steer.state = 0 := by rw [hregs2]
  have hcount2 : s2.steer.count = 1 := by rw [hregs2]
  obtain ⟨s3, hx3, hleft, hkept⟩ := exec_steerPulse_leavesInit hopen2 hstate2 hcount2
  rw [show (withPulse s2 ts2 (s0.portB + 200)).steer = _ from hregs2] at hkept
  exact ⟨s1, s2, s3, hx1, hstate1, hx2, hstate2, hx3, hleft, hkept⟩

end Sys2Proof.Statements

/-! # The frame exchange: the engines

SerialFrameExchange's DMA engines (43_frame_exchange.md R171, R179): the word an engine moves, and where a completion leaves
its descriptors. -/

namespace Sys2Proof.Machine

open Sys2Proof.Statements

variable {s t : State} {d : Dir} {e : Exchange} {slot pos : Byte} {nxt : DmaNxt} {m : Memory}

/-! ### One direction of a state -/

@[simp] theorem setXch_xch (s : State) (d : Dir) (e : Exchange) : (s.setXch d e).xch d = e := by cases d <;> rfl

@[simp] theorem setIsr_xch (s : State) (c : IsrCtx) (d : Dir) : (s.setIsr c).xch d = s.xch d := by cases d <;> rfl

/-! ### The descriptor an engine works on -/

/-- A loaded engine stands on the descriptor `transfer` names. -/
theorem load_of_transfer (h : transfer e = some (slot, pos, nxt)) :
    e.load = some { e with dmaCur := { valid := true, slot := slot, pos := pos }, dmaNxt := nxt } := by
  unfold transfer at h
  unfold Exchange.load
  by_cases hc : e.dmaCur.valid = true
  · rw [if_pos hc] at h ⊢
    cases h
    rw [← hc]
  · rw [if_neg hc] at h ⊢
    by_cases hn : e.dmaNxt.valid = true
    · rw [if_pos hn] at h ⊢
      cases h
      rfl
    · rw [if_neg hn] at h
      cases h

theorem load_of_transfer_none (h : transfer e = none) : e.load = none := by
  unfold transfer at h
  unfold Exchange.load
  split at h
  · cases h
  · rename_i hc
    split at h
    · cases h
    · rename_i hn
      rw [if_neg hc, if_neg hn]

theorem transfer_of_cur_valid (h : e.dmaCur.valid = true) : transfer e = some (e.dmaCur.slot, e.dmaCur.pos, e.dmaNxt) :=
  if_pos h

/-- An engine on a descriptor goes on as 43_frame_exchange.md R171 writes it. -/
theorem moved_eq_transferred (e : Exchange) (slot pos : Byte) (nxt : DmaNxt) :
    Exchange.moved { e with dmaCur := { valid := true, slot := slot, pos := pos }, dmaNxt := nxt } =
      transferred e slot pos nxt := by
  unfold Exchange.moved transferred
  dsimp only
  by_cases hk : pos + 1 = 16
  · rw [if_pos hk, if_pos hk, hk, BitVec.or_assoc]
    rfl
  · rw [if_neg hk, if_neg hk]

/-- The sixteenth word with a next descriptor armed: the engine goes on with it. -/
theorem transferred_last_armed (h : nxt.valid = true) : transferred e slot 15 nxt =
    { e with
      sr := e.sr ||| flagEnd
      dmaCur := { valid := true, slot := nxt.slot, pos := 0 }
      dmaNxt := { nxt with valid := false } } :=
  (if_pos rfl).trans (if_pos h)

/-- The sixteenth word with no next descriptor: END with BUFF, the engine idles. -/
theorem transferred_last_exhausted (h : nxt.valid = false) : transferred e slot 15 nxt =
    { e with sr := e.sr ||| flagEnd ||| flagBuff, dmaCur := { valid := false, slot := slot, pos := 16 }, dmaNxt := nxt } := by
  rw [BitVec.or_assoc]
  exact (if_pos rfl).trans (if_neg (by simp [h]))

/-! ### DMA_WORD -/

theorem exec_dmaWord_of (ha : s.agent = .hw (dmaAgent d)) (h : dmaStep d s = .ok t) : exec (.dmaWord d) s = .next t := by
  change byAgent _ (dmaStep d) s = _
  rw [byAgent_of _ ha, h, settle_ok]

theorem dmaStep_of_transfer (h : transfer (s.xch d) = some (slot, pos, nxt)) :
    dmaStep d s =
      dmaMove d { s.xch d with dmaCur := { valid := true, slot := slot, pos := pos }, dmaNxt := nxt } s := by
  rw [dmaStep, load_of_transfer h]

/-- The receive engine stores the word on port A. -/
theorem dmaStep_rx_of_transfer (h : transfer s.rx = some (slot, pos, nxt))
    (hm : Memory.writeWord s.cfg.nRx s.rx.slots slot.toNat pos.toNat s.portA.word = .ok m) :
    dmaStep .rx s = .ok { s with rx := transferred { s.rx with slots := m } slot pos nxt } := by
  rw [dmaStep_of_transfer (d := .rx) h, ← moved_eq_transferred]
  exact congrArg (Except.map _) hm

/-- The transmit engine puts the word of its slot on the line. -/
theorem dmaStep_tx_of_transfer {v : Word} (h : transfer s.tx = some (slot, pos, nxt))
    (hv : Memory.readWord s.cfg.nTx s.tx.slots slot.toNat pos.toNat = .ok v) :
    dmaStep .tx s = .ok { s with tx := transferred s.tx slot pos nxt, obs := .lineOut v :: s.obs } := by
  rw [dmaStep_of_transfer (d := .tx) h, ← moved_eq_transferred]
  exact congrArg (Except.map _) hv

theorem dmaStep_of_idle (h : transfer (s.xch d) = none) : dmaStep d s = .ok (dmaIdle d s) := by
  rw [dmaStep, load_of_transfer_none h]

/-- Either engine on a word in range: what it does to its direction. -/
theorem exec_dmaWord_moves (ha : s.agent = .hw (dmaAgent d)) (h : transfer (s.xch d) = some (slot, pos, nxt))
    (hwf : Memory.wf (s.cfg.depth d) (s.xch d).slots = true) (hslot : slot.toNat < s.cfg.depth d) (hpos : pos.toNat < 16) :
    ∃ t m, exec (.dmaWord d) s = .next t ∧ t.cfg = s.cfg ∧ t.xch d = transferred { s.xch d with slots := m } slot pos nxt := by
  cases d with
  | rx =>
    obtain ⟨_, -, hm⟩ := writeWord_ok hwf hslot hpos s.portA.word
    exact ⟨_, _, exec_dmaWord_of ha (dmaStep_rx_of_transfer h hm), rfl, rfl⟩
  | tx =>
    obtain ⟨v, hv⟩ := readWord_wf hwf hslot hpos
    exact ⟨_, s.tx.slots, exec_dmaWord_of ha (dmaStep_tx_of_transfer h hv), rfl, rfl⟩

/-! ### The engines arm no descriptor -/

theorem nxt_valid_of_load {e' : Exchange} (h : e.load = some e') (hv : e'.dmaNxt.valid = true) : e.dmaNxt.valid = true := by
  unfold Exchange.load at h
  split at h
  · cases h
    exact hv
  · split at h
    · assumption
    · cases h

theorem nxt_valid_of_moved (hv : e.moved.dmaNxt.valid = true) : e.dmaNxt.valid = true := by
  unfold Exchange.moved at hv
  dsimp only at hv
  split at hv
  · split at hv
    · cases hv
    · exact hv
  · exact hv

theorem nxt_valid_of_dmaStep (h : dmaStep d s = .ok t) (hv : (t.xch d).dmaNxt.valid = true) :
    (s.xch d).dmaNxt.valid = true := by
  unfold dmaStep at h
  split at h
  · rename_i e' hload
    refine nxt_valid_of_load hload ?_
    cases d with
    | rx =>
      obtain ⟨m, -, rfl⟩ := map_ok h
      exact nxt_valid_of_moved (e := { e' with slots := m }) hv
    | tx =>
      obtain ⟨v, -, rfl⟩ := map_ok h
      exact nxt_valid_of_moved hv
  · cases h
    cases d <;> exact hv

theorem nxt_valid_of_exec_dmaWord (h : exec (.dmaWord d) s = .next t) (hv : (t.xch d).dmaNxt.valid = true) :
    (s.xch d).dmaNxt.valid = true := by
  rcases byAgent_cases h with ⟨-, h⟩ | ⟨-, r, -, rfl⟩ | ⟨-, rfl⟩
  · exact nxt_valid_of_dmaStep h hv
  · cases d <;> exact hv
  · rwa [← units_xch, refuse_units, units_xch] at hv

end Sys2Proof.Machine

namespace Sys2Proof.Statements

open Sys2Proof.Machine Sys2Proof.Safety

/-- Settles O45: the word by direction, with a descriptor and without. -/
theorem dmaWord : Obligations.DmaWord := by
  refine ⟨fun s slot pos nxt ha htr hwf hslot hpos => ?_, fun s slot pos nxt v ha htr hv => ?_, fun s ha hidle => ?_,
    fun s ha hidle => ?_⟩
  · obtain ⟨_, -, hm⟩ := writeWord_ok hwf hslot hpos s.portA.word
    refine ⟨_, exec_dmaWord_of ha (dmaStep_rx_of_transfer htr hm), readWord_write_same hm, fun k w hne => ?_⟩
    exact readWord_write_other hm (by simpa only [ne_eq, Prod.mk.injEq, not_and_or] using hne)
  · exact exec_dmaWord_of ha (dmaStep_tx_of_transfer htr hv)
  · exact exec_dmaWord_of ha (dmaStep_of_idle (d := .rx) hidle)
  · exact ⟨_, exec_dmaWord_of ha (dmaStep_of_idle (d := .tx) hidle)⟩

theorem isEnd_or_flagEnd (sr : BitVec 2) : isEnd (sr ||| flagEnd) = true := by revert sr; decide

theorem isBuff_or_flagEnd (sr : BitVec 2) : isBuff (sr ||| flagEnd) = isBuff sr := by revert sr; decide

theorem isBuff_or_both (sr : BitVec 2) : isBuff (sr ||| flagEnd ||| flagBuff) = true := by revert sr; decide

/-- A next descriptor becomes armed only by the completion handler or the start (43_frame_exchange.md R179). -/
theorem step_arms {s t : State} {d : Dir} (h : step s = .next t) (hs : (s.xch d).dmaNxt.valid = false)
    (ht : (t.xch d).dmaNxt.valid = true) : Ran s (.xchIsr d) ∨ Ran s .xchStart := by
  have hne : (t.xch d).dmaNxt ≠ (s.xch d).dmaNxt := fun he => by rw [he, hs] at ht; cases ht
  have hkept : (s.xch d).dmaNxt.valid ≠ true := by simp [hs]
  obtain ⟨w, hw, hu⟩ := step_wrote h
  rcases descriptors_written hw hu d (.inr (.inl hne)) with hran | hran
  · rcases step_of_ran h hran with ⟨a, o, hx⟩ | rfl
    · have harmed := nxt_valid_of_exec_dmaWord hx ht
      rw [← units_xch, issue_units, takeEvent_units, units_xch] at harmed
      exact absurd harmed hkept
    · exact absurd (by cases d <;> rfl) hne
  · exact hran

/-- Settles O49: the sixteenth word with a next descriptor and without, and who arms one. -/
theorem secondCompletionOverruns : Obligations.SecondCompletionOverruns := by
  refine fun d s => ⟨fun slot nxt ha htr hwf hslot => ?_, fun t => step_arms⟩
  obtain ⟨t, m, hx, -, hxch⟩ := exec_dmaWord_moves ha htr hwf hslot (by decide)
  refine ⟨t, hx, ?_⟩
  cases hv : nxt.valid with
  | true =>
    rw [hxch, transferred_last_armed hv]
    exact ⟨isEnd_or_flagEnd _, rfl, fun _ => ⟨rfl, isBuff_or_flagEnd _⟩, nofun⟩
  | false =>
    rw [hxch, transferred_last_exhausted hv]
    exact ⟨isEnd_or_both _, hv, nofun, fun _ => ⟨isBuff_or_both _, rfl⟩⟩

end Sys2Proof.Statements

/-! # The frame exchange: start, completion handler, callbacks

XCH_START, one equation per micro-step of XCH_ISR, and the steps of an external callback (43_frame_exchange.md R170,
R174–R178). -/

namespace Sys2Proof.Machine

open Sys2Proof.Statements

variable {s t : State} {d : Dir} {c : IsrCtx}

/-! ### XCH_START -/

theorem exec_xchStart_of (ha : s.agent = .poll) (h : xchStartStep s = .ok t) : exec .xchStart s = .next t := by
  change byAgent .poll xchStartStep s = _
  rw [byAgent_of _ ha, h, settle_ok]

theorem xchStartStep_of_disabled (hrx : s.rx.ie = false) (htx : s.tx.ie = false) :
    xchStartStep s = .ok ({ s with rx := s.rx.start, tx := s.tx.start }.complete (.ok .unit)) := by
  simp [xchStartStep, hrx, htx]

theorem xchStartStep_of_enabled (h : s.rx.ie = true ∨ s.tx.ie = true) : xchStartStep s = .ok s.refuse :=
  if_pos (Bool.or_eq_true_iff.mpr h)

/-! ### XCH_ISR -/

/-- The active handler's word executes its next micro-step. -/
theorem byHandler_of_inHandler {hd : Handler} {mu : Nat} {f : IsrCtx → State → Except Fault State}
    (h : InHandler s c hd mu) (ht : c.mu = mu → f c s = .ok t) : byHandler hd f s = .next t := by
  obtain ⟨ha, hc, hh, hcb, hmu⟩ := h
  rw [byHandler_of f ha hc hh hcb, ht hmu, settle_ok]

theorem exec_xchIsr_of {mu : Nat} (h : InHandler s c (.xchIsr d) mu) (ht : c.mu = mu → xchIsrStep d c s = .ok t) :
    exec (.xchIsr d) s = .next t :=
  byHandler_of_inHandler h ht

/-- XCH_ISR μ1: read and clear XCH_SR. -/
theorem xchIsrStep_status (h : c.mu = 1) : xchIsrStep d c s =
    .ok ((s.setXch d { s.xch d with sr := 0 }).setIsr { c with mu := 2, hX := (s.xch d).sr }) := by
  simp [xchIsrStep, h, xchRead]

/-- XCH_ISR μ2 where END was read: publish the finished slot, advance. -/
theorem xchIsrStep_publish (h : c.mu = 2) (hend : isEnd c.hX = true) : xchIsrStep d c s =
    .ok ((s.setXch d { s.xch d with
      last := (s.xch d).cur, cur := slotAfter (s.cfg.depth d) 1 (s.xch d).cur }).setIsr
        { c with mu := 3, done := (s.xch d).cur }) := by
  simp [xchIsrStep, h, xchPublish, hend]

theorem xchIsrStep_noPublish (h : c.mu = 2) (hend : isEnd c.hX = false) :
    xchIsrStep d c s = .ok (s.setIsr { c with mu := 3 }) := by
  simp [xchIsrStep, h, xchPublish, hend]

/-- XCH_ISR μ3 where END was read: arm the slot two on. -/
theorem xchIsrStep_arm (h : c.mu = 3) (hend : isEnd c.hX = true) : xchIsrStep d c s =
    .ok ((s.setXch d { s.xch d with dmaNxt := DmaNxt.arm (slotAfter (s.cfg.depth d) 2 c.done) }).setIsr
      { c with mu := 4 }) := by
  simp [xchIsrStep, h, xchArm, hend]

theorem xchIsrStep_noArm (h : c.mu = 3) (hend : isEnd c.hX = false) :
    xchIsrStep d c s = .ok (s.setIsr { c with mu := 4 }) := by
  simp [xchIsrStep, h, xchArm, hend]

/-- XCH_ISR μ4 where BUFF was read: count the event, restart the current descriptor. -/
theorem xchIsrStep_restartCur (h : c.mu = 4) (hbuff : isBuff c.hX = true) : xchIsrStep d c s =
    .ok ((s.setXch d { s.xch d with errcnt := (s.xch d).errcnt + 1, dmaCur := DmaCur.arm 0 }).setIsr
      { c with mu := 5 }) := by
  simp [xchIsrStep, h, xchRestartCur, hbuff]

theorem xchIsrStep_noRestartCur (h : c.mu = 4) (hbuff : isBuff c.hX = false) :
    xchIsrStep d c s = .ok (s.setIsr { c with mu := 5 }) := by
  simp [xchIsrStep, h, xchRestartCur, hbuff]

/-- XCH_ISR μ5 where BUFF was read: restart the next descriptor and the index. -/
theorem xchIsrStep_restartNxt (h : c.mu = 5) (hbuff : isBuff c.hX = true) : xchIsrStep d c s =
    .ok ((s.setXch d { s.xch d with dmaNxt := DmaNxt.arm 1, cur := 0 }).setIsr { c with mu := 6 }) := by
  simp [xchIsrStep, h, xchRestartNxt, hbuff]

theorem xchIsrStep_noRestartNxt (h : c.mu = 5) (hbuff : isBuff c.hX = false) :
    xchIsrStep d c s = .ok (s.setIsr { c with mu := 6 }) := by
  simp [xchIsrStep, h, xchRestartNxt, hbuff]

/-- XCH_ISR μ6 where END was read: the callback starts. -/
theorem xchIsrStep_callback (h : c.mu = 6) (hend : isEnd c.hX = true) :
    xchIsrStep d c s = .ok (s.setIsr { c with cb := callbackOf s.cfg d }) := by
  simp [xchIsrStep, h, xchCallback, hend]

/-- XCH_ISR μ6 where END was not read: the return. -/
theorem xchIsrStep_return (h : c.mu = 6) (hend : isEnd c.hX = false) :
    xchIsrStep d c s = .ok (s.leaveExchange c) := by
  simp [xchIsrStep, h, xchCallback, hend]

theorem exchangeResult_eq_xchTrace (d : Dir) (h : BitVec 2) : exchangeResult d h = xchTrace d h := by cases d <;> rfl

/-- XCH_ISR ends with its trace result (43_frame_exchange.md R174). -/
theorem leaveExchange_of (h : c.handler = .xchIsr d) :
    s.leaveExchange c = { s with isr := none, obs := .trace (.xchIsr d) (xchTrace d c.hX) :: s.obs } := by
  rw [← exchangeResult_eq_xchTrace, State.leaveExchange, h]
  rfl

theorem callbackOf_eq (p : Params) (d : Dir) :
    callbackOf p d = if d = .rx ∧ p.rxCallback = .alignStep then .alignEntry else .external .start := by
  cases d with
  | rx => cases h : p.rxCallback <;> simp [callbackOf, h]
  | tx => simp [callbackOf]

/-! ### External callbacks -/

theorem isrOp_of_callback {st : RbStage} (hcb : c.cb = .external st) (hitem : ∀ o, s.nextCbItem ≠ .op o) :
    s.isrOp c = none := by
  unfold State.isrOp
  rw [hcb]
  dsimp only
  split
  · exact absurd ‹_› (hitem _)
  · rfl
  · rfl

/-- An item without a word is the interrupt context's step without a word. -/
theorem step_of_callback {st : RbStage} (hl : Live s) (he : s.nextEvent = .isr) (hc : s.isr = some c)
    (hcb : c.cb = .external st) (hitem : ∀ o, s.nextCbItem ≠ .op o) : step s = settle (taken s) (taken s).isrOther := by
  obtain ⟨hf, hvalid⟩ := hl
  have hnone : s.takeEvent.currentOp .isr = none := by
    rw [currentOp_takeEvent, State.currentOp, hc, Option.bind_some, isrOp_of_callback hcb hitem, Option.map_none]
  unfold step
  rw [hf, he]
  dsimp only
  rw [if_pos hvalid, stepEvent, hnone]
  rfl

section Items

variable {st : RbStage} {w : BitVec 4} {v : Word} {m : Memory} (hc : s.isr = some c) (hcb : c.cb = .external st)
include hc hcb

/-- The transmit callback's store into the slot just transmitted. -/
theorem isrOther_of_txFill (hitem : s.nextCbItem = .fill w v) (hh : c.handler = .xchIsr .tx)
    (hm : Memory.writeWord s.cfg.nTx s.tx.slots c.done.toNat w.toNat v = .ok m) :
    s.isrOther = .ok { s with
      agent := .isr, tx := { s.tx with slots := m }, isr := some { c with cb := .external .start }
      cbItems := s.cbItems.tail, cbIdx := s.cbIdx + 1 } := by
  have hstored : s.isrOther = .ok (State.advance { s with agent := .isr, tx := { s.tx with slots := m } }) := by
    simp [State.isrOther, hc, hitem, State.fillSlot, hh, hm, Except.map]
  refine hstored.trans (congrArg Except.ok ?_)
  exact advance_of_callback rfl hc hcb

/-- A receive callback that tries to store is refused. -/
theorem isrOther_of_rxFill (hitem : s.nextCbItem = .fill w v) (hh : c.handler = .xchIsr .rx) :
    s.isrOther = .ok { s with
      agent := .isr, refused := true, isr := some { c with cb := .external .start }
      cbItems := s.cbItems.tail, cbIdx := s.cbIdx + 1 } := by
  have hrefused : s.isrOther = .ok (State.advance { s with agent := .isr, refused := true }) := by
    simp [State.isrOther, hc, hitem, State.fillSlot, hh, State.refuse]
  refine hrefused.trans (congrArg Except.ok ?_)
  exact advance_of_callback rfl hc hcb

/-- An external callback's return ends the handler. -/
theorem isrOther_of_ret (hitem : s.nextCbItem = .ret) (hh : c.handler = .xchIsr d) :
    s.isrOther = .ok { s with
      agent := .isr, isr := none, cbItems := s.cbItems.tail, cbIdx := s.cbIdx + 1
      obs := .trace (.xchIsr d) (xchTrace d c.hX) :: s.obs } := by
  have hreturned : s.isrOther = .ok ((State.advance { s with agent := .isr }).leaveExchange c) := by
    simp [State.isrOther, hc, hitem, State.endCallback]
  have hgo := advance_of_callback (s := { s with agent := .isr }) rfl hc hcb
  rw [hreturned, leaveExchange_of hh, hgo]

end Items

end Sys2Proof.Machine

namespace Sys2Proof.Statements

open Sys2Proof.Machine Sys2Proof.Safety

/-- Settles O44: both directions disabled, or one enabled. -/
theorem xchStart : Obligations.XchStart := fun _ ha =>
  ⟨fun hrx htx => exec_xchStart_of ha (xchStartStep_of_disabled hrx htx),
    fun h => exec_xchStart_of ha (xchStartStep_of_enabled h)⟩

/-- Settles O46: each micro-step by its equation. -/
theorem xchIsrSteps : Obligations.XchIsrSteps := by
  rintro s c d _ rfl
  refine ⟨fun h => exec_xchIsr_of h xchIsrStep_status,
    fun h => ⟨fun hend => exec_xchIsr_of h fun hmu => xchIsrStep_publish hmu hend,
      fun hend => exec_xchIsr_of h fun hmu => xchIsrStep_noPublish hmu hend⟩,
    fun h => ⟨fun hend => exec_xchIsr_of h fun hmu => xchIsrStep_arm hmu hend,
      fun hend => exec_xchIsr_of h fun hmu => xchIsrStep_noArm hmu hend⟩,
    fun h => ⟨fun hbuff => exec_xchIsr_of h fun hmu => xchIsrStep_restartCur hmu hbuff,
      fun hbuff => exec_xchIsr_of h fun hmu => xchIsrStep_noRestartCur hmu hbuff⟩,
    fun h => ⟨fun hbuff => exec_xchIsr_of h fun hmu => xchIsrStep_restartNxt hmu hbuff,
      fun hbuff => exec_xchIsr_of h fun hmu => xchIsrStep_noRestartNxt hmu hbuff⟩,
    fun h => ⟨fun hend => ⟨_, exec_xchIsr_of h fun hmu => xchIsrStep_callback hmu hend, callbackOf_eq s.cfg d⟩,
      fun hend => exec_xchIsr_of h fun hmu => ?_⟩⟩
  obtain ⟨-, -, hh, -⟩ := h
  rw [xchIsrStep_return hmu hend, leaveExchange_of hh]

/-- Settles O47: the item's step, and how the callback goes on. -/
theorem callbackSteps : Obligations.CallbackSteps := by
  intro s c st hl he hc hcb
  refine ⟨fun w v hitem hh hwf hdone => ?_, fun w v hitem hh => ?_, fun d hitem hh => ?_⟩
  · obtain ⟨_, -, hm⟩ := writeWord_ok hwf hdone w.isLt v
    refine ⟨_, ?_, readWord_write_same hm, fun k j hne => readWord_write_other hm ?_⟩
    · rw [step_of_callback hl he hc hcb (by simp [hitem]), isrOther_of_txFill (s := taken s) hc hcb hitem hh hm]
      rfl
    · simpa only [ne_eq, Prod.mk.injEq, not_and_or] using hne
  · rw [step_of_callback hl he hc hcb (by simp [hitem]), isrOther_of_rxFill (s := taken s) hc hcb hitem hh]
    rfl
  · rw [step_of_callback hl he hc hcb (by simp [hitem]), isrOther_of_ret (s := taken s) hc hcb hitem hh]
    rfl

/-! ### The ring invariant (43_frame_exchange.md R175) -/

theorem toNat_slotAfter {n : Nat} (hlo : 2 ≤ n) (hhi : n ≤ 127) (k : Nat) (slot : Byte) :
    (slotAfter n k slot).toNat = (slot.toNat + k) % n := by
  have hmod : (slot.toNat + k) % n < n := Nat.mod_lt _ (by omega)
  rw [slotAfter, BitVec.toNat_ofNat, Nat.mod_eq_of_lt (by omega)]

/-- A direction after XCH_ISR up to its μ3 has read END (43_frame_exchange.md R174). -/
def handled (n : Nat) (e : Exchange) : Exchange :=
  { e with
    sr := 0
    last := e.cur
    cur := slotAfter n 1 e.cur
    dmaNxt := DmaNxt.arm (slotAfter n 2 e.cur) }

/-- XCH_ISR from its entry, END set: its first three micro-steps. -/
theorem exec_xchIsr_handled {s : State} {d : Dir} (ha : s.agent = .isr) (hc : s.isr = some (IsrCtx.enter (.xchIsr d)))
    (hend : isEnd (s.xch d).sr = true) :
    ∃ s1 s2 s3, exec (.xchIsr d) s = .next s1 ∧ exec (.xchIsr d) s1 = .next s2 ∧ exec (.xchIsr d) s2 = .next s3 ∧
      s3.xch d = handled (s.cfg.depth d) (s.xch d) := by
  refine ⟨_, _, _, exec_xchIsr_of ⟨ha, hc, rfl, rfl, rfl⟩ xchIsrStep_status,
    exec_xchIsr_of ⟨?_, setIsr_isr _ _, rfl, rfl, rfl⟩ fun hmu => xchIsrStep_publish hmu hend,
    exec_xchIsr_of ⟨?_, setIsr_isr _ _, rfl, rfl, rfl⟩ fun hmu => xchIsrStep_arm hmu hend, ?_⟩
  · simpa using ha
  · simpa using ha
  · simp [handled]

/-- A completed slot handled in time leaves two slots outstanding. -/
theorem outstanding_handled {n : Nat} {e : Exchange} (hlo : 2 ≤ n) (hhi : n ≤ 127) (hv : e.dmaCur.valid = true)
    (hslot : e.dmaCur.slot.toNat = (e.cur.toNat + 1) % n) : Outstanding n (handled n e) := by
  refine ⟨slotAfter_lt hlo hhi 1 e.cur, hv, rfl, BitVec.eq_of_toNat_eq ?_, ?_⟩
  · exact hslot.trans (toNat_slotAfter hlo hhi 1 e.cur).symm
  · change (slotAfter n 2 e.cur).toNat = ((slotAfter n 1 e.cur).toNat + 1) % n
    rw [toNat_slotAfter hlo hhi, toNat_slotAfter hlo hhi, Nat.mod_add_mod]

/-- Settles O48: the completion goes on with the armed descriptor, the handler arms the one after it. -/
theorem ringInvariantRestored : Obligations.RingInvariantRestored := by
  rintro s d _ rfl hlo hhi ⟨hcur, hv, hnv, hslot, hnext⟩ hpos hsr hwf
  have htr : transfer (s.xch d) = some ((s.xch d).cur, 15, (s.xch d).dmaNxt) := by
    rw [transfer_of_cur_valid hv, hslot, hpos]
  have hissued : State.xch { s with agent := .hw (dmaAgent d) } d = s.xch d := by cases d <;> rfl
  obtain ⟨s1, m, hx1, hcfg, hxch⟩ := exec_dmaWord_moves (s := { s with agent := .hw (dmaAgent d) }) rfl
    (hissued ▸ htr) (hissued ▸ hwf) hcur (by decide)
  rw [hissued, transferred_last_armed hnv, hsr] at hxch
  have hentered : State.xch { s1 with agent := .isr, isr := some (IsrCtx.enter (.xchIsr d)) } d = s1.xch d := by
    cases d <;> rfl
  obtain ⟨s2, s3, s4, hx2, hx3, hx4, hhandled⟩ :=
    exec_xchIsr_handled (s := { s1 with agent := .isr, isr := some (IsrCtx.enter (.xchIsr d)) }) rfl rfl
      (by rw [hentered, hxch]; exact isEnd_or_flagEnd 0)
  have hdepth : s1.cfg.depth d = s.cfg.depth d := congrArg (Params.depth · d) hcfg
  rw [hentered, hdepth, hxch] at hhandled
  refine ⟨s1, s2, s3, s4, hx1, hx2, hx3, hx4, ?_⟩
  rw [hhandled]
  exact ⟨outstanding_handled hlo hhi rfl hnext, rfl, rfl, rfl, toNat_slotAfter hlo hhi 1 _⟩

end Sys2Proof.Statements

/-! # ALIGN_STEP and its request

One equation per stage of ALIGN_STEP and for PHASE_REQUEST at its request (44_alignment.md R190, R191, R194;
45_phase_adjust.md R200; log entry 11), and from them a whole check by induction on the slots it has passed. -/

namespace Sys2Proof.Machine

open Sys2Proof.Statements

variable {s t : State} {c : IsrCtx} {p : Params} {k : Nat} {w0 w8 : Word}

/-! ### The stages of ALIGN_STEP (44_alignment.md R190) -/

theorem exec_alignStep_of {cb : Callback} (h : InAlign s c cb) (ht : c.cb = cb → alignStage c s = .ok t) :
    exec .alignStep s = .next t := by
  obtain ⟨ha, hc, hh, hcb⟩ := h
  change execAlignStep s = _
  simp [execAlignStep, ha, hc, hh, ht hcb]

/-- ALIGN_STEP ends and XCH_ISR(0) with it. -/
theorem alignReturn_of (h : c.handler = .xchIsr .rx) (r : Result) : s.alignReturn c r =
    { s with isr := none, obs := .trace (.xchIsr .rx) (xchTrace .rx c.hX) :: .trace .alignStep r :: s.obs } :=
  leaveExchange_of h

theorem alignReload_of (h : c.handler = .xchIsr .rx) (r : Result) : alignReload c r s =
    { s with
      detCnt := s.cfg.alignCheckInterval, isr := none
      obs := .trace (.xchIsr .rx) (xchTrace .rx c.hX) :: .trace .alignStep r :: s.obs } :=
  alignReturn_of h r

theorem alignStage_entry (h : c.cb = .alignEntry) : alignStage c s = .ok (alignCount c s) := by simp [alignStage, h]

theorem alignCount_of_more (hh : c.handler = .xchIsr .rx) (hn : s.detCnt ≠ 1) : alignCount c s =
    { s with
      detCnt := s.detCnt - 1, isr := none
      obs := .trace (.xchIsr .rx) (xchTrace .rx c.hX) :: .trace .alignStep (.ok .unit) :: s.obs } := by
  have hleft : s.detCnt - 1 ≠ 0 := by bv_omega
  exact (if_pos hleft).trans (alignReturn_of hh _)

theorem alignCount_of_last (hn : s.detCnt = 1) :
    alignCount c s = { s with detCnt := 0, isr := some { c with cb := .alignEven 0 } } := by
  simp [alignCount, hn, State.setIsr]

theorem alignStage_even (h : c.cb = .alignEven k) (hread : Memory.readWord s.cfg.nRx s.rx.slots k 0 = .ok w0) :
    alignStage c s = .ok (s.setIsr { c with cb := .alignOdd k w0 }) := by
  simp [alignStage, h, alignEven, hread, Except.map]

theorem alignStage_odd (h : c.cb = .alignOdd k w0) (hread : Memory.readWord s.cfg.nRx s.rx.slots k 8 = .ok w8) :
    alignStage c s = .ok (alignJudge c k w0 w8 s) := by
  simp [alignStage, h, alignOdd, hread, Except.map]

theorem slotOk_iff : slotOk p w0 w8 = true ↔
    w0.extractLsb' 25 7 = p.fasPattern ∧ w8.extractLsb' 30 2 = p.nfasPattern := by
  simp [slotOk]

theorem alignJudge_of_good (h : slotOk s.cfg w0 w8 = true) (hk : k + 1 < s.cfg.nRx) :
    alignJudge c k w0 w8 s = s.setIsr { c with cb := .alignEven (k + 1) } := by
  simp [alignJudge, h, hk]

theorem alignJudge_of_lastGood (h : slotOk s.cfg w0 w8 = true) (hk : s.cfg.nRx ≤ k + 1) :
    alignJudge c k w0 w8 s = alignReload c (.ok .unit) s := by
  simp [alignJudge, h, Nat.not_lt.mpr hk]

theorem alignJudge_of_bad (h : ¬ slotOk s.cfg w0 w8 = true) : alignJudge c k w0 w8 s =
    { s with
      stats := { s.stats with desync := s.stats.desync + 1 }, isr := some { c with cb := .alignRequest } } := by
  simp [alignJudge, h, State.setIsr]

theorem alignStage_finish {busy : Bool} (h : c.cb = .alignFinish busy) : alignStage c s = .ok (alignFinish c busy s) := by
  simp [alignStage, h]

theorem alignFinish_of (hh : c.handler = .xchIsr .rx) (busy : Bool) : alignFinish c busy s =
    { s with
      stats := { s.stats with phaseBusy := if busy = true then s.stats.phaseBusy + 1 else s.stats.phaseBusy }
      detCnt := s.cfg.alignCheckInterval, isr := none
      obs := .trace (.xchIsr .rx) (xchTrace .rx c.hX) :: .trace .alignStep .desync :: s.obs } := by
  cases busy <;> exact alignReload_of hh _

theorem exec_alignStep_finish {busy : Bool} (h : InAlign s c (.alignFinish busy)) : exec .alignStep s = .next { s with
    stats := { s.stats with phaseBusy := if busy = true then s.stats.phaseBusy + 1 else s.stats.phaseBusy }
    detCnt := s.cfg.alignCheckInterval, isr := none
    obs := .trace (.xchIsr .rx) (xchTrace .rx c.hX) :: .trace .alignStep .desync :: s.obs } := by
  have ⟨_, _, hh, _⟩ := h
  exact exec_alignStep_of h fun hcb => (alignStage_finish hcb).trans (congrArg Except.ok (alignFinish_of hh busy))

/-! ### PHASE_REQUEST at ALIGN_STEP's request (45_phase_adjust.md R200) -/

theorem post_eq (f : FrameTimer) (dir : Nudge) :
    f.post dir = { f with pend := dir.code, armed := true, matched := f.armed && f.matched } := by
  cases h : f.armed <;> simp [FrameTimer.post, h]

theorem phaseStep_of_idle (h : s.ft.pend = 0) (dir : Nudge) (deliver : State → Result → State) :
    phaseStep dir deliver s = .ok (deliver { s with ft := s.ft.post dir } (.ok .unit)) := by
  have hread : s.ft.readPend = .ok 0 := by simp [FrameTimer.readPend, h]
  rw [phaseStep, hread]
  rfl

theorem phaseStep_of_pending (h0 : s.ft.pend ≠ 0) (h3 : s.ft.pend ≠ 3) (dir : Nudge)
    (deliver : State → Result → State) : phaseStep dir deliver s = .ok (deliver s .busy) := by
  have hread : s.ft.readPend = .ok s.ft.pend := if_neg h3
  rw [phaseStep, hread]
  exact if_pos h0

section Request

variable (ha : s.agent = .isr) (hc : s.isr = some c) (hcb : c.cb = .alignRequest) (dir : Nudge)
include ha hc hcb

theorem exec_phaseRequest_of_alignRequest :
    exec (.phaseRequest dir) s = settle s (phaseStep dir State.answerAlign s) := by
  change execPhaseRequest dir s = _
  simp [execPhaseRequest, ha, State.atRequest, hc, hcb]

/-- ALIGN_STEP's request, the mailbox idle: posted. -/
theorem exec_phaseRequest_posted (hp : s.ft.pend = 0) : exec (.phaseRequest dir) s = .next { s with
    ft := s.ft.post dir, isr := some { c with cb := .alignFinish false }, obs := .result .isr (.ok .unit) :: s.obs } := by
  rw [exec_phaseRequest_of_alignRequest ha hc hcb, phaseStep_of_idle hp, settle_ok]
  simp [State.answerAlign, hc, ha, State.observe, State.setIsr]

/-- ALIGN_STEP's request, another one pending: `Busy`, and no other effect. -/
theorem exec_phaseRequest_busy (h0 : s.ft.pend ≠ 0) (h3 : s.ft.pend ≠ 3) : exec (.phaseRequest dir) s = .next { s with
    isr := some { c with cb := .alignFinish true }, obs := .result .isr .busy :: s.obs } := by
  rw [exec_phaseRequest_of_alignRequest ha hc hcb, phaseStep_of_pending h0 h3, settle_ok]
  simp [State.answerAlign, hc, ha, State.observe, State.setIsr]

end Request

end Sys2Proof.Machine

namespace Sys2Proof.Statements

open Sys2Proof.Machine

/-- Settles O50: each stage by its equation. -/
theorem alignSteps : Obligations.AlignSteps := by
  intro s c
  refine ⟨fun h => ⟨fun hn => exec_alignStep_of h fun hcb => ?_, fun hn => exec_alignStep_of h fun hcb => ?_⟩,
    fun k w0 h hread => exec_alignStep_of h fun hcb => alignStage_even hcb hread,
    fun k w0 w8 h hread => ⟨fun hgood => ⟨fun hk => exec_alignStep_of h fun hcb => ?_,
      fun hk => exec_alignStep_of h fun hcb => ?_⟩, fun hbad => exec_alignStep_of h fun hcb => ?_⟩,
    fun busy h => exec_alignStep_finish h⟩
  all_goals obtain ⟨-, -, hh, -⟩ := h
  · rw [alignStage_entry hcb, alignCount_of_more hh hn]
  · rw [alignStage_entry hcb, alignCount_of_last hn]
  · rw [alignStage_odd hcb hread, alignJudge_of_good (slotOk_iff.mpr hgood) hk]
    rfl
  · rw [alignStage_odd hcb hread, alignJudge_of_lastGood (slotOk_iff.mpr hgood) hk, alignReload_of hh]
  · rw [alignStage_odd hcb hread, alignJudge_of_bad (slotOk_iff.not.mpr hbad)]

/-! ### Operations one after the other -/

section Sequences

variable {i : Instr} {is js : List Instr} {s t u : State} {m n : Nat}

theorem chainExec_cons (h : exec i s = .next t) : chainExec (i :: is) s = chainExec is t := by
  rw [chainExec, h]

theorem chainExec_append (h : chainExec is s = some t) : chainExec (is ++ js) s = chainExec js t := by
  induction is generalizing s with
  | nil => cases h; rfl
  | cons i is ih =>
    cases hx : exec i s with
    | next s' =>
      rw [chainExec_cons hx] at h
      rw [List.cons_append, chainExec_cons hx, ih h]
    | fault r => simp [chainExec, hx] at h
    | refused r => simp [chainExec, hx] at h

theorem repeatExec_eq_chainExec (n : Nat) (i : Instr) (s : State) :
    repeatExec n i s = chainExec (List.replicate n i) s := by
  induction n generalizing s with
  | zero => rfl
  | succ n ih => simp only [repeatExec, List.replicate_succ, chainExec, ih]

theorem repeatExec_add (h : repeatExec m i s = some t) : repeatExec (m + n) i s = repeatExec n i t := by
  simp only [repeatExec_eq_chainExec] at h ⊢
  rw [List.replicate_add, chainExec_append h]

theorem repeatExec_two (h : exec i s = .next t) (h' : exec i t = .next u) : repeatExec 2 i s = some u := by
  simp [repeatExec, h, h']

theorem chainExec_two {j : Instr} (h : exec i s = .next t) (h' : exec j t = .next u) : chainExec [i, j] s = some u := by
  rw [chainExec_cons h, chainExec_cons h', chainExec]

end Sequences

/-! ### A check (44_alignment.md R190, R194–R196) -/

section Scan

variable {s t : State} {c : IsrCtx} {k : Nat}

/-- ALIGN_STEP in `s`, about to look at slot `k`. -/
def atSlot (s : State) (c : IsrCtx) (k : Nat) : State := s.setIsr { c with cb := .alignEven k }

/-- ALIGN_STEP in `s` once it has found a bad slot, about to request. -/
def toRequest (s : State) (c : IsrCtx) : State :=
  { s with stats := { s.stats with desync := s.stats.desync + 1 }, isr := some { c with cb := .alignRequest } }

section Slots

variable (ha : s.agent = .isr) (hh : c.handler = .xchIsr .rx)
include ha hh

/-- ALIGN_STEP's two accesses to a slot: its words are read, then judged. -/
theorem repeatExec_atSlot {w0 w8 : Word} (h0 : Memory.readWord s.cfg.nRx s.rx.slots k 0 = .ok w0)
    (h8 : Memory.readWord s.cfg.nRx s.rx.slots k 8 = .ok w8)
    (ht : alignJudge { c with cb := .alignOdd k w0 } k w0 w8 (s.setIsr { c with cb := .alignOdd k w0 }) = t) :
    repeatExec 2 .alignStep (atSlot s c k) = some t := by
  have hread : exec .alignStep (atSlot s c k) = .next (s.setIsr { c with cb := .alignOdd k w0 }) :=
    exec_alignStep_of ⟨ha, rfl, hh, rfl⟩ fun _ => alignStage_even rfl h0
  exact repeatExec_two hread
    (exec_alignStep_of ⟨ha, rfl, hh, rfl⟩ fun _ => (alignStage_odd rfl h8).trans (congrArg Except.ok ht))

theorem repeatExec_goodSlot (hgood : SlotGood s k) (hk : k + 1 < s.cfg.nRx) :
    repeatExec 2 .alignStep (atSlot s c k) = some (atSlot s c (k + 1)) := by
  obtain ⟨w0, w8, h0, h8, hok⟩ := hgood
  exact repeatExec_atSlot ha hh h0 h8 (alignJudge_of_good (slotOk_iff.mpr hok) hk)

theorem repeatExec_lastGoodSlot (hgood : SlotGood s k) (hk : s.cfg.nRx ≤ k + 1) :
    repeatExec 2 .alignStep (atSlot s c k) = some { s with
      detCnt := s.cfg.alignCheckInterval, isr := none
      obs := .trace (.xchIsr .rx) (xchTrace .rx c.hX) :: .trace .alignStep (.ok .unit) :: s.obs } := by
  obtain ⟨w0, w8, h0, h8, hok⟩ := hgood
  exact repeatExec_atSlot ha hh h0 h8 ((alignJudge_of_lastGood (slotOk_iff.mpr hok) hk).trans (alignReload_of hh _))

theorem repeatExec_badSlot (hwf : Memory.wf s.cfg.nRx s.rx.slots = true) (hk : k < s.cfg.nRx) (hbad : ¬ SlotGood s k) :
    repeatExec 2 .alignStep (atSlot s c k) = some (toRequest s c) := by
  obtain ⟨w0, h0⟩ := readWord_wf hwf hk (w := 0) (by decide)
  obtain ⟨w8, h8⟩ := readWord_wf hwf hk (w := 8) (by decide)
  have hnot : ¬ slotOk s.cfg w0 w8 = true := fun h => hbad ⟨w0, w8, h0, h8, slotOk_iff.mp h⟩
  exact repeatExec_atSlot ha hh h0 h8 (alignJudge_of_bad hnot)

/-- The scan gets past any number of good slots, and all it changes is its place. -/
theorem repeatExec_goodSlots (hk : k < s.cfg.nRx) (hgood : ∀ j, j < k → SlotGood s j) :
    repeatExec (2 * k) .alignStep (atSlot s c 0) = some (atSlot s c k) := by
  induction k with
  | zero => rfl
  | succ k ih =>
    have hpassed := ih (Nat.lt_of_succ_lt hk) fun j hj => hgood j (Nat.lt_succ_of_lt hj)
    rw [Nat.mul_succ, repeatExec_add hpassed, repeatExec_goodSlot ha hh (hgood k (Nat.lt_succ_self k)) hk]

end Slots

/-- The check from its entry to slot `k`, the slots before it good. -/
theorem repeatExec_toSlot (h : InAlign s c .alignEntry) (hn : s.detCnt = 1) (hk : k < s.cfg.nRx)
    (hgood : ∀ j, j < k → SlotGood s j) :
    repeatExec (1 + 2 * k) .alignStep s = some (atSlot { s with detCnt := 0 } c k) := by
  have hstart : exec .alignStep s = .next (atSlot { s with detCnt := 0 } c 0) :=
    exec_alignStep_of h fun hcb => (alignStage_entry hcb).trans (congrArg Except.ok (alignCount_of_last hn))
  have hone : repeatExec 1 .alignStep s = some (atSlot { s with detCnt := 0 } c 0) := by simp [repeatExec, hstart]
  obtain ⟨ha, -, hh, -⟩ := h
  rw [repeatExec_add hone]
  exact repeatExec_goodSlots (s := { s with detCnt := 0 }) ha hh hk hgood

/-- After a bad slot: the request, posted or answered `Busy`, then the check's end. -/
theorem chainExec_requestAndFinish (h : InAlign s c .alignRequest) (hp : s.ft.pend ≠ 3) :
    ∃ ft busy, (s.ft.pend ≠ 0 → ft = s.ft ∧ busy = true) ∧
      (s.ft.pend = 0 → busy = false ∧ ft = { s.ft with
        pend := 1, armed := true, matched := s.ft.armed && s.ft.matched }) ∧
      chainExec [.phaseRequest .increase, .alignStep] s = some { s with
        ft := ft
        stats := { s.stats with phaseBusy := if busy = true then s.stats.phaseBusy + 1 else s.stats.phaseBusy }
        detCnt := s.cfg.alignCheckInterval, isr := none
        obs := .trace (.xchIsr .rx) (xchTrace .rx c.hX) :: .trace .alignStep .desync ::
          .result .isr (if busy = true then .busy else .ok .unit) :: s.obs } := by
  obtain ⟨ha, hc, hh, hcb⟩ := h
  by_cases h0 : s.ft.pend = 0
  · refine ⟨s.ft.post .increase, false, fun hne => absurd h0 hne, fun _ => ⟨rfl, post_eq _ _⟩, ?_⟩
    exact chainExec_two (exec_phaseRequest_posted ha hc hcb .increase h0)
      (exec_alignStep_finish (c := { c with cb := .alignFinish false }) ⟨ha, rfl, hh, rfl⟩)
  · refine ⟨s.ft, true, fun _ => ⟨rfl, rfl⟩, fun he => absurd he h0, ?_⟩
    exact chainExec_two (exec_phaseRequest_busy ha hc hcb .increase h0 hp)
      (exec_alignStep_finish (c := { c with cb := .alignFinish true }) ⟨ha, rfl, hh, rfl⟩)

theorem repeatExec_allGood (h : InAlign s c .alignEntry) (hn : s.detCnt = 1) (hdepth : 1 ≤ s.cfg.nRx)
    (hgood : ∀ k, k < s.cfg.nRx → SlotGood s k) :
    repeatExec (2 * s.cfg.nRx + 1) .alignStep s = some { s with
      detCnt := s.cfg.alignCheckInterval, isr := none
      obs := .trace (.xchIsr .rx) (xchTrace .rx c.hX) :: .trace .alignStep (.ok .unit) :: s.obs } := by
  have hlast : s.cfg.nRx - 1 < s.cfg.nRx := by omega
  have hscan := repeatExec_toSlot h hn hlast fun j hj => hgood j (by omega)
  obtain ⟨ha, -, hh, -⟩ := h
  rw [show 2 * s.cfg.nRx + 1 = 1 + 2 * (s.cfg.nRx - 1) + 2 by omega, repeatExec_add hscan]
  exact repeatExec_lastGoodSlot (s := { s with detCnt := 0 }) ha hh (hgood _ hlast) (Nat.le_succ_of_pred_le le_rfl)

theorem repeatExec_firstBad (h : InAlign s c .alignEntry) (hn : s.detCnt = 1)
    (hwf : Memory.wf s.cfg.nRx s.rx.slots = true) (hk : k < s.cfg.nRx) (hgood : ∀ j, j < k → SlotGood s j)
    (hbad : ¬ SlotGood s k) :
    repeatExec (2 * k + 3) .alignStep s = some (toRequest { s with detCnt := 0 } c) := by
  have hscan := repeatExec_toSlot h hn hk hgood
  obtain ⟨ha, -, hh, -⟩ := h
  rw [show 2 * k + 3 = 1 + 2 * k + 2 by omega, repeatExec_add hscan]
  exact repeatExec_badSlot (s := { s with detCnt := 0 }) ha hh hwf hk hbad

end Scan

/-- Settles O51: the scan passes the good slots; the last one ends it, or the first bad one leads to the request. -/
theorem scanIssuesOneRequest : Obligations.ScanIssuesOneRequest := by
  intro s c h hn hwf hdepth hp
  refine ⟨fun hgood => repeatExec_allGood h hn hdepth hgood, fun k hk hgood hbad => ?_⟩
  have hscan := repeatExec_firstBad h hn hwf hk hgood hbad
  obtain ⟨ha, -, hh, -⟩ := h
  rw [repeatExec_eq_chainExec] at hscan
  rw [chainExec_append hscan]
  exact chainExec_requestAndFinish (s := toRequest { s with detCnt := 0 } c) (c := { c with cb := .alignRequest })
    ⟨ha, rfl, hh, rfl⟩ hp

end Sys2Proof.Statements

/-! # The phase adjuster and the frame timer

PHASE_REQUEST from POLL, FT_TICK, the micro-steps of FT_ISR, and the run of the machine through a period of the frame
clock (45_phase_adjust.md R200–R205). -/

namespace Sys2Proof.Machine

open Sys2Proof.Statements Sys2Proof.Safety

variable {s t u : State} {c : IsrCtx}

/-! ### PHASE_REQUEST from POLL (45_phase_adjust.md R200) -/

theorem critical_of {f : State → Except Fault State} (h : f { s with primask := true } = .ok u) :
    critical f s = .ok { u with primask := false } := by
  rw [critical, h]
  rfl

/-- POLL's request is a critical section, which leaves PRIMASK 0. -/
theorem exec_phaseRequest_of_poll {dir : Nudge} {r : Result} (ha : s.agent = .poll)
    (h : phaseStep dir State.complete { s with primask := true } = .ok ({ u with primask := true }.complete r)) :
    exec (.phaseRequest dir) s = .next ({ u with primask := false }.complete r) := by
  change execPhaseRequest dir s = _
  simp only [execPhaseRequest, ha]
  rw [critical_of h, settle_ok]
  exact congrArg Host.Outcome.next (complete_setPrimask { u with primask := true } false r).symm

/-- POLL's request, the mailbox idle: posted. -/
theorem exec_phaseRequest_poll_posted (ha : s.agent = .poll) (h : s.ft.pend = 0) (dir : Nudge) :
    exec (.phaseRequest dir) s = .next ({ s with ft := s.ft.post dir, primask := false }.complete (.ok .unit)) :=
  exec_phaseRequest_of_poll (u := { s with ft := s.ft.post dir }) ha
    (phaseStep_of_idle (s := { s with primask := true }) h dir _)

/-- POLL's request, another one pending: `Busy`, and no other effect. -/
theorem exec_phaseRequest_poll_busy (ha : s.agent = .poll) (h0 : s.ft.pend ≠ 0) (h3 : s.ft.pend ≠ 3) (dir : Nudge) :
    exec (.phaseRequest dir) s = .next ({ s with primask := false }.complete .busy) :=
  exec_phaseRequest_of_poll (u := s) ha (phaseStep_of_pending (s := { s with primask := true }) h0 h3 dir _)

/-! ### FT_TICK (45_phase_adjust.md R202) -/

theorem exec_ftTick_of (ha : s.agent = .hw .ftimer) : exec .ftTick s = settle s (ftTickStep s) := byAgent_of _ ha

/-- The last tick of a period. -/
theorem exec_ftTick_ends (ha : s.agent = .hw .ftimer) (h : s.ft.cnt = s.ft.top - 1) : exec .ftTick s =
    .next { s with ft := { s.ft with cnt := 0, matched := true }, obs := .frameSync :: s.obs } := by
  have hends : s.ft.ends = true := decide_eq_true h
  rw [exec_ftTick_of ha, ftTickStep, if_pos hends, FrameTimer.tick, if_pos hends]
  rfl

/-- A tick inside a period. -/
theorem exec_ftTick_counts (ha : s.agent = .hw .ftimer) (h : s.ft.cnt ≠ s.ft.top - 1) : exec .ftTick s =
    .next { s with ft := { s.ft with cnt := s.ft.cnt + 1 } } := by
  have hruns : ¬ s.ft.ends = true := fun he => h (of_decide_eq_true he)
  rw [exec_ftTick_of ha, ftTickStep, if_neg hruns, FrameTimer.tick, if_neg hruns]
  rfl

/-! ### FT_ISR (45_phase_adjust.md R203) -/

theorem nudgedTop_eq_topFor (nominal : Half) (pend : BitVec 2) : nudgedTop nominal pend = topFor nominal pend := by
  unfold nudgedTop topFor
  split_ifs with hinc hdec
  · rw [hinc]; rfl
  · rw [hdec]; rfl
  · split
    · exact absurd rfl hinc
    · exact absurd rfl hdec
    · rfl

/-- FT_ISR μ1: clear MATCH. -/
theorem ftIsrStep_clear (h : c.mu = 1) : ftIsrStep c s =
    .ok { s with ft := { s.ft with matched := false }, isr := some { c with mu := 2 } } := by
  simp [ftIsrStep, h, State.setIsr]

theorem apply_eq (f : FrameTimer) (nominal : Half) (pend : BitVec 2) : f.apply nominal pend =
    { f with top := topFor nominal pend, armed := if pend = 0 then false else f.armed, pend := 0 } := by
  rw [FrameTimer.apply, nudgedTop_eq_topFor]

/-- FT_ISR μ2: apply what is pending and return. -/
theorem ftIsrStep_apply (h : c.mu = 2) (hp : s.ft.pend ≠ 3) : ftIsrStep c s =
    .ok { s with
      ft := s.ft.apply s.cfg.nominalTop s.ft.pend, isr := none, obs := .trace .ftIsr (.ok .unit) :: s.obs } := by
  have hread : s.ft.readPend = .ok s.ft.pend := if_neg hp
  simp [ftIsrStep, h, hread, Except.map, State.leaveHandler, State.observe]

theorem exec_ftIsr_of {mu : Nat} (h : InHandler s c .ftIsr mu) (ht : c.mu = mu → ftIsrStep c s = .ok t) :
    exec .ftIsr s = .next t :=
  byHandler_of_inHandler h ht

end Sys2Proof.Machine

namespace Sys2Proof.Statements

open Sys2Proof.Machine

/-- Settles O52: the request from POLL and from ALIGN_STEP, the mailbox idle or not. -/
theorem phaseRequest : Obligations.PhaseRequest := by
  intro s dir ft hft
  have hpost : ft = s.ft.post dir := by
    rw [hft, post_eq]
    cases dir <;> rfl
  have hpending : s.ft.pend = 1 ∨ s.ft.pend = 2 → s.ft.pend ≠ 0 ∧ s.ft.pend ≠ 3 := by
    rintro (h | h) <;> simp [h]
  rw [hpost]
  refine ⟨fun ha => ⟨fun h => exec_phaseRequest_poll_posted ha h dir, fun h => ?_⟩,
    fun c ha hc hcb => ⟨fun h => exec_phaseRequest_posted ha hc hcb dir h, fun h => ?_⟩⟩
  all_goals obtain ⟨h0, h3⟩ := hpending h
  · exact exec_phaseRequest_poll_busy ha h0 h3 dir
  · exact exec_phaseRequest_busy ha hc hcb dir h0 h3

/-- Settles O53: the tick at FT_TOP − 1 and elsewhere. -/
theorem ftTick : Obligations.FtTick := fun _ ha => ⟨exec_ftTick_ends ha, exec_ftTick_counts ha⟩

/-- Settles O54: each micro-step by its equation. -/
theorem ftIsr : Obligations.FtIsr := by
  intro s c
  refine ⟨fun h => exec_ftIsr_of h ftIsrStep_clear, fun h hp => ?_⟩
  rw [exec_ftIsr_of h fun hmu => ftIsrStep_apply hmu hp, apply_eq]

end Sys2Proof.Statements

/-! # A nudge over the periods of the frame clock

The run of the machine through a period and its FT_ISR (45_phase_adjust.md R202–R205). -/

namespace Sys2Proof.Machine

open Sys2Proof.Statements

/-! ### Runs -/

section Runs

variable {M : Host.Core} {s t u : M.State} {m : Nat}

theorem run_succ_of_step (h : M.step s = .next u) (n : Nat) : M.run (n + 1) s = M.run n u := by
  rw [Host.Core.run, h]

theorem run_add (h : M.run m s = .next t) (n : Nat) : M.run (m + n) s = M.run n t := by
  induction m generalizing s with
  | zero => cases h; rw [Nat.zero_add]
  | succ m ih =>
    cases hstep : M.step s with
    | next u =>
      rw [run_succ_of_step hstep] at h
      rw [Nat.succ_add, run_succ_of_step hstep, ih h]
    | fault r => simp [Host.Core.run, hstep] at h
    | refused r => simp [Host.Core.run, hstep] at h

end Runs

/-! ### What the next step is -/

variable {s : State}

theorem nextEvent_of_sched {e : Event} {evs : List Event} (h : s.sched = e :: evs) : s.nextEvent = e := by
  rw [State.nextEvent, h]

theorem step_of_live (h : Live s) : step s = stepEvent s.nextEvent s.takeEvent := by
  obtain ⟨hfaults, hvalid⟩ := h
  unfold step
  rw [hfaults, hvalid]
  rfl

/-- The step of an agent that presents the word of `i` executes `i`. -/
theorem step_of_currentOp {a : Agent} {o : IssuedOp} {i : Instr} (hl : Live s)
    (hop : s.currentOp s.nextEvent = some (a, o)) (hi : decode o.word = .ok i) :
    step s = exec i (s.takeEvent.issue a o) := by
  rw [step_of_live hl, stepEvent, currentOp_takeEvent, hop]
  exact runWord_of_decode hi

theorem step_of_dispatch {h : Handler} (hl : Live s) (he : s.nextEvent = .dispatch h) (hm : s.mayDispatch h = true) :
    step s = .next (s.takeEvent.enterHandler h) := by
  rw [step_of_live hl, he]
  exact congrArg Host.Outcome.next (if_pos hm)

end Sys2Proof.Machine

namespace Sys2Proof.Statements

open Sys2Proof.Machine

/-! ### The timer in a run -/

/-- A machine in a run, PRIMASK 0, under configuration `p`: the interrupt context at `isr`, the timer at `f`, the events `evs`
ahead, `k` frame-syncs seen. -/
structure Timed (p : Params) (isr : Option IsrCtx) (f : FrameTimer) (evs : List Event) (k : Nat) (s : State) : Prop where
  faults : s.faults = []
  cfg : s.cfg = p
  primask : s.primask = false
  isr : s.isr = isr
  ft : s.ft = f
  sched : s.sched = evs
  syncs : syncs s.obs = k

section Run

variable {p : Params} (hp : p.valid = true) {isr : Option IsrCtx} {f : FrameTimer} {evs : List Event} {k : Nat}
  {s : State}

include hp

theorem Timed.live (h : Timed p isr f evs k s) : Live s := ⟨h.faults, h.cfg ▸ hp⟩

/-- A tick of FTIMER, whatever the interrupt context does. -/
theorem Timed.step_tick (h : Timed p isr f (ftTicks 1 ++ evs) k s) :
    ∃ o, step s = exec .ftTick (s.takeEvent.issue (.hw .ftimer) o) := by
  have hop : ∃ o, s.currentOp s.nextEvent = some (.hw .ftimer, o) ∧ encode .ftTick = o.word := by
    rw [nextEvent_of_sched h.sched]
    exact ⟨_, rfl, by decide⟩
  obtain ⟨o, hop, hword⟩ := hop
  exact ⟨o, step_of_currentOp (h.live hp) hop (decode_eq_ok_iff.mpr hword)⟩

/-- A tick inside a period. -/
theorem Timed.tick (h : Timed p isr f (ftTicks 1 ++ evs) k s) (hin : f.cnt ≠ f.top - 1) :
    ∃ t, step s = .next t ∧ Timed p isr { f with cnt := f.cnt + 1 } evs k t := by
  obtain ⟨o, hstep⟩ := h.step_tick hp
  rw [exec_ftTick_counts rfl (by rw [issue_ft, takeEvent_ft, h.ft]; exact hin)] at hstep
  refine ⟨_, hstep, h.faults, h.cfg, h.primask, h.isr, ?_, congrArg List.tail h.sched, h.syncs⟩
  rw [← h.ft]; rfl

/-- The last tick of a period. -/
theorem Timed.lastTick (h : Timed p isr f (ftTicks 1 ++ evs) k s) (hend : f.cnt = f.top - 1) :
    ∃ t, step s = .next t ∧ Timed p isr { f with cnt := 0, matched := true } evs (k + 1) t := by
  obtain ⟨o, hstep⟩ := h.step_tick hp
  rw [exec_ftTick_ends rfl (by rw [issue_ft, takeEvent_ft, h.ft]; exact hend)] at hstep
  refine ⟨_, hstep, h.faults, h.cfg, h.primask, h.isr, ?_, congrArg List.tail h.sched, congrArg (· + 1) h.syncs⟩
  rw [← h.ft]; rfl

/-- The rest of a period: its match comes after `m` ticks (45_phase_adjust.md R202). -/
theorem Timed.period {m : Nat} (h : Timed p isr f (ftTicks m ++ evs) k s) (hm : f.cnt.toNat + m = f.top.toNat)
    (hpos : 0 < m) :
    ∃ t, Host.Core.run core m s = .next t ∧ Timed p isr { f with cnt := 0, matched := true } evs (k + 1) t := by
  induction m generalizing s f with
  | zero => exact absurd hpos (Nat.lt_irrefl 0)
  | succ m ih =>
    rcases Nat.eq_zero_or_pos m with rfl | hmore
    · obtain ⟨t, hstep, ht⟩ := h.lastTick hp (by bv_omega)
      exact ⟨t, run_succ_of_step (M := core) hstep 0, ht⟩
    · obtain ⟨u, hstep, hu⟩ := h.tick hp (by bv_omega)
      obtain ⟨t, hrun, ht⟩ := ih hu (by dsimp only; bv_omega) hmore
      exact ⟨t, (run_succ_of_step (M := core) hstep m).trans hrun, ht⟩

/-- A micro-step of FT_ISR. -/
theorem Timed.step_ftIsr {c : IsrCtx} (h : Timed p (some c) f (.isr :: evs) k s) (hh : c.handler = .ftIsr)
    (hcb : c.cb = .none) : step s = exec .ftIsr (s.takeEvent.issue .isr (s.plainOp .ftIsr)) := by
  have hop : s.currentOp s.nextEvent = some (.isr, s.plainOp .ftIsr) := by
    rw [nextEvent_of_sched h.sched]
    simp [State.currentOp, h.isr, State.isrOp, hcb, hh, handlerInstr]
  exact step_of_currentOp (h.live hp) hop (decodeEncode .ftIsr)

/-- FT_ISR μ1. -/
theorem Timed.clear (h : Timed p (some (IsrCtx.enter .ftIsr)) f (.isr :: evs) k s) :
    ∃ t, step s = .next t ∧
      Timed p (some { IsrCtx.enter .ftIsr with mu := 2 }) { f with matched := false } evs k t := by
  have hexec := exec_ftIsr_of (s := s.takeEvent.issue .isr (s.plainOp .ftIsr)) ⟨rfl, h.isr, rfl, rfl, rfl⟩ ftIsrStep_clear
  refine ⟨_, (h.step_ftIsr hp rfl rfl).trans hexec, h.faults, h.cfg, h.primask, rfl, ?_, congrArg List.tail h.sched, h.syncs⟩
  rw [← h.ft]; rfl

/-- FT_ISR μ2. -/
theorem Timed.apply (h : Timed p (some { IsrCtx.enter .ftIsr with mu := 2 }) f (.isr :: evs) k s) (hpend : f.pend ≠ 3) :
    ∃ t, step s = .next t ∧ Timed p none (f.apply p.nominalTop f.pend) evs k t := by
  have hexec := exec_ftIsr_of (s := s.takeEvent.issue .isr (s.plainOp .ftIsr)) ⟨rfl, h.isr, rfl, rfl, rfl⟩
    fun hmu => ftIsrStep_apply hmu (ne_of_eq_of_ne (congrArg FrameTimer.pend h.ft) hpend)
  refine ⟨_, (h.step_ftIsr hp rfl rfl).trans hexec, h.faults, h.cfg, h.primask, rfl, ?_, congrArg List.tail h.sched, h.syncs⟩
  rw [← h.ft, ← h.cfg]; rfl

/-- FT_ISR from its dispatch to its return (45_phase_adjust.md R203; 60_exceptions.md R250, R251). -/
theorem Timed.handler (h : Timed p none f (ftHandler ++ evs) k s) (harmed : f.armed = true) (hmatch : f.matched = true)
    (hpend : f.pend ≠ 3) :
    ∃ t, Host.Core.run core 3 s = .next t ∧
      Timed p none ({ f with matched := false }.apply p.nominalTop f.pend) evs k t := by
  have hmay : s.mayDispatch .ftIsr = true := by
    simp [State.mayDispatch, State.pending, h.isr, h.primask, h.ft, harmed, hmatch]
  have hentry := step_of_dispatch (h.live hp) (nextEvent_of_sched h.sched) hmay
  have h1 : Timed p (some (IsrCtx.enter .ftIsr)) f (.isr :: .isr :: evs) k (s.takeEvent.enterHandler .ftIsr) :=
    ⟨h.faults, h.cfg, h.primask, rfl, h.ft, congrArg List.tail h.sched, h.syncs⟩
  obtain ⟨u, hclear, h2⟩ := h1.clear hp
  obtain ⟨t, happly, h3⟩ := h2.apply hp hpend
  refine ⟨t, ?_, h3⟩
  calc Host.Core.run core 3 s
      = Host.Core.run core 2 _ := run_succ_of_step (M := core) hentry 2
    _ = Host.Core.run core 1 u := run_succ_of_step (M := core) hclear 1
    _ = Host.Core.run core 0 t := run_succ_of_step (M := core) happly 0

/-- The rest of a period and the FT_ISR after its match. -/
theorem Timed.periodAndHandler {m : Nat} (h : Timed p none f (ftTicks m ++ ftHandler ++ evs) k s)
    (hm : f.cnt.toNat + m = f.top.toNat) (hpos : 0 < m) (harmed : f.armed = true) (hpend : f.pend ≠ 3) :
    ∃ t, Host.Core.run core (m + 3) s = .next t ∧
      Timed p none ({ f with cnt := 0, matched := false }.apply p.nominalTop f.pend) evs (k + 1) t := by
  rw [List.append_assoc] at h
  obtain ⟨u, hperiod, hu⟩ := h.period hp hm hpos
  obtain ⟨t, hhandler, ht⟩ := hu.handler hp harmed rfl hpend
  exact ⟨t, (run_add (M := core) hperiod 3).trans hhandler, ht⟩

end Run

/-! ### The nudge (45_phase_adjust.md R204) -/

theorem apply_of_pending {f : FrameTimer} {nominal : Half} {pend : BitVec 2} (h : pend ≠ 0) :
    f.apply nominal pend = { f with top := topFor nominal pend, pend := 0 } := by
  rw [apply_eq, if_neg h]

theorem apply_of_idle (f : FrameTimer) (nominal : Half) :
    f.apply nominal 0 = { f with top := nominal, armed := false, pend := 0 } := rfl

theorem nominalTop_of_valid {p : Params} (h : p.valid = true) :
    2 ≤ p.nominalTop.toNat ∧ p.nominalTop.toNat ≤ 2 ^ 16 - 2 := by
  simp only [Params.valid, Bool.and_eq_true, decide_eq_true_eq] at h
  omega

section NudgedLength

variable {p : Params} (hp : p.valid = true)
include hp

theorem toNat_topFor_increase : (topFor p.nominalTop Nudge.increase.code).toNat = p.nominalTop.toNat + 1 := by
  have hbounds := nominalTop_of_valid hp
  change (p.nominalTop + 1).toNat = _
  bv_omega

theorem toNat_topFor_decrease : (topFor p.nominalTop Nudge.decrease.code).toNat = p.nominalTop.toNat - 1 := by
  have hbounds := nominalTop_of_valid hp
  change (p.nominalTop - 1).toNat = _
  bv_omega

theorem toNat_topFor_code_pos (dir : Nudge) : 0 < (topFor p.nominalTop dir.code).toNat := by
  have hbounds := nominalTop_of_valid hp
  cases dir with
  | increase => rw [toNat_topFor_increase hp]; omega
  | decrease => rw [toNat_topFor_decrease hp]; omega

end NudgedLength

/-- The period running at an accepted request, the nudged one and the one after it: at the end the timer is disarmed and nominal. -/
theorem Timed.nudge {p : Params} (hp : p.valid = true) {dir : Nudge} {c : Half} {m k : Nat} {s : State}
    (h : Timed p none { pend := dir.code, armed := true, top := p.nominalTop, cnt := c, matched := false }
      (ftTicks m ++ ftHandler ++
        (ftTicks (topFor p.nominalTop dir.code).toNat ++ ftHandler ++ ftTicks p.nominalTop.toNat)) k s)
    (hm : c.toNat + m = p.nominalTop.toNat) (hpos : 0 < m) :
    ∃ t0 t1 t2,
      Host.Core.run core (m + 3) s = .next t0 ∧
      Host.Core.run core ((topFor p.nominalTop dir.code).toNat + 3) t0 = .next t1 ∧
      Host.Core.run core p.nominalTop.toNat t1 = .next t2 ∧
      Timed p none { pend := 0, armed := true, top := topFor p.nominalTop dir.code, cnt := 0, matched := false }
        (ftTicks (topFor p.nominalTop dir.code).toNat ++ ftHandler ++ ftTicks p.nominalTop.toNat) (k + 1) t0 ∧
      Timed p none { pend := 0, armed := false, top := p.nominalTop, cnt := 0, matched := false }
        (ftTicks p.nominalTop.toNat) (k + 2) t1 ∧
      Timed p none { pend := 0, armed := false, top := p.nominalTop, cnt := 0, matched := true } [] (k + 3) t2 := by
  have hpend : dir.code ≠ 0 := by cases dir <;> decide
  have hlegal : dir.code ≠ 3 := by cases dir <;> decide
  have hidle : (0 : BitVec 2) ≠ 3 := by decide
  have hnominal : 0 < p.nominalTop.toNat := by
    have hbounds := nominalTop_of_valid hp
    omega
  obtain ⟨t0, hrun0, ht0⟩ := h.periodAndHandler hp hm hpos rfl hlegal
  rw [apply_of_pending hpend] at ht0
  obtain ⟨t1, hrun1, ht1⟩ := ht0.periodAndHandler hp (Nat.zero_add _) (toNat_topFor_code_pos hp dir) rfl hidle
  rw [apply_of_idle] at ht1
  have hlast := ht1
  rw [← List.append_nil (ftTicks _)] at hlast
  obtain ⟨t2, hrun2, ht2⟩ := hlast.period hp (Nat.zero_add _) hnominal
  exact ⟨t0, t1, t2, hrun0, hrun1, hrun2, ht0, ht1, ht2⟩

/-- Settles O55: the states at the ends of the three periods are those of `Timed.nudge`. -/
theorem nudgeLastsOnePeriod : Obligations.NudgeLastsOnePeriod := by
  rintro s dir c n n1 ⟨hfaults, hp⟩ hisr hprimask hft rfl hc hn1 hsched
  have hposted : s.ft = { pend := dir.code, armed := true, top := s.cfg.nominalTop, cnt := c, matched := false } := by
    rw [hft]
    cases dir <;> rfl
  have hnudged : n1 = (topFor s.cfg.nominalTop dir.code).toNat := by
    cases dir with
    | increase => exact hn1.trans (toNat_topFor_increase hp).symm
    | decrease => exact hn1.trans (toNat_topFor_decrease hp).symm
  subst hnudged
  have hstart : Timed s.cfg none _ _ (syncs s.obs) s := ⟨hfaults, rfl, hprimask, hisr, hposted, hsched, rfl⟩
  obtain ⟨t0, t1, t2, hrun0, hrun1, hrun2, ht0, ht1, ht2⟩ :=
    hstart.nudge hp (Nat.add_sub_of_le hc.le) (Nat.sub_pos_of_lt hc)
  exact ⟨t0, t1, t2,
    hrun0, congrArg FrameTimer.cnt ht0.ft, congrArg (fun f => f.top.toNat) ht0.ft, ht0.syncs,
    hrun1, congrArg FrameTimer.cnt ht1.ft, ht1.syncs, congrArg FrameTimer.armed ht1.ft, congrArg FrameTimer.top ht1.ft,
    congrArg FrameTimer.pend ht1.ft,
    hrun2, congrArg FrameTimer.cnt ht2.ft, ht2.syncs, congrArg FrameTimer.top ht2.ft, congrArg FrameTimer.armed ht2.ft⟩

end Sys2Proof.Statements

/-! # The bit realigner: its operations and their frames

RA_SET_ALIGNMENT and RA_REALIGN_FRAME for the owner of an existing realigner, and one frame byte by byte and bit by bit
(46_realigner.md R220–R222). -/

namespace Sys2Proof.Machine

open Sys2Proof.Safety Sys2Proof.Statements

/-! ### For the owner (46_realigner.md R226) -/

section Owner

variable {s : State} {i : BitVec 8} {r : Realigner}

theorem exec_raSetAlignment_of {nBits : BitVec 16} (hi : i.toNat < s.cfg.raCount) (hr : s.realigners[i.toNat]? = some r)
    (h : ActsFor s s.cfg.raOwner[i.toNat]?) :
    exec (.raSetAlignment i nBits) s =
      .next ((s.setRealigner i.toNat (Realigner.set s.cfg nBits)).complete (.ok .unit)) := by
  have hstep : setAlignmentStep i.toNat nBits s =
      .ok ((s.setRealigner i.toNat (Realigner.set s.cfg nBits)).complete (.ok .unit)) := by
    rw [setAlignmentStep, unitAt_some hr]; rfl
  calc exec (.raSetAlignment i nBits) s
      = bySide s.cfg.raOwner[i.toNat]? (setAlignmentStep i.toNat nBits) s := if_pos hi
    _ = settle s (setAlignmentStep i.toNat nBits s) := bySide_of _ (actsFor_of h)
    _ = _ := by rw [hstep, settle_ok]

theorem exec_raRealignFrame_of (hi : i.toNat < s.cfg.raCount) (hr : s.realigners[i.toNat]? = some r)
    (h : ActsFor s s.cfg.raOwner[i.toNat]?) (hover : r.offset.toNat / 8 ≤ r.reframe.length) :
    exec (.raRealignFrame i) s =
      .next ((s.setRealigner i.toNat (r.next s.cfg.f s.frameOperand)).complete
        (.ok (.frame (r.output s.cfg.f s.frameOperand)))) := by
  have hstep : realignStep i.toNat s =
      .ok ((s.setRealigner i.toNat (r.next s.cfg.f s.frameOperand)).complete
        (.ok (.frame (r.output s.cfg.f s.frameOperand)))) := by
    rw [realignStep, unitAt_some hr]; exact if_pos hover
  calc exec (.raRealignFrame i) s
      = bySide s.cfg.raOwner[i.toNat]? (realignStep i.toNat) s := if_pos hi
    _ = settle s (realignStep i.toNat s) := bySide_of _ (actsFor_of h)
    _ = _ := by rw [hstep, settle_ok]

/-- Who acts for a side still does once its operation has ended. -/
theorem actsFor_complete {side : Option Ctx} (h : ActsFor s side) (res : Result) : ActsFor (s.complete res) side := by
  rcases h with ⟨ha, hside⟩ | ⟨ha, hside, c, st, hc, hh, hcb⟩
  · exact .inl ⟨(complete_agent s res).trans ha, hside⟩
  · refine .inr ⟨(complete_agent s res).trans ha, hside, { c with cb := .external .start }, .start, ?_, hh, rfl⟩
    rw [State.complete, advance_of_callback (s := s.observe _) ha hc hcb]

end Owner

/-! ### One frame byte by byte (46_realigner.md R221) -/

section Bytes

theorem take_eq_map_getD {α : Type} {l : List α} {n : Nat} (h : n ≤ l.length) (d : α) :
    l.take n = (List.range n).map (l.getD · d) := by
  refine List.ext_getElem (by simpa using h) fun k hk _ => ?_
  have hlt : k < l.length := by simp at hk; omega
  simp [hlt]

/-- Each shifted byte has the low bits of the byte before it, the first one the carry, above its own high bits. -/
theorem shiftBytes_fst (b : Nat) (carry : Byte) (inp : List Byte) :
    (shiftBytes b carry inp).1 = (List.range inp.length).map fun j =>
      inp.getD j 0 >>> b ||| (if j = 0 then carry else inp.getD (j - 1) 0 <<< (8 - b)) := by
  induction inp generalizing carry with
  | nil => rfl
  | cons c cs ih =>
    simp only [shiftBytes, ih, List.length_cons, List.range_succ_eq_map, List.map_cons, List.map_map]
    refine congrArg₂ _ rfl (List.map_congr_left fun j _ => ?_)
    cases j with
    | zero => rfl
    | succ j => simp

/-- The last byte's low bits are the carry out of a frame. -/
theorem shiftBytes_snd (b : Nat) (carry : Byte) {inp : List Byte} (h : 1 ≤ inp.length) :
    (shiftBytes b carry inp).2 = inp.getD (inp.length - 1) 0 <<< (8 - b) := by
  induction inp generalizing carry with
  | nil => simp at h
  | cons c cs ih =>
    cases cs with
    | nil => rfl
    | cons d ds => exact ih (c <<< (8 - b)) (by simp)

variable {r : Realigner} {f B b : Nat} {inp : List Byte} {buf : Nat → Byte}
  (hB : B = r.offset.toNat / 8) (hb : b = r.offset.toNat % 8) (hBf : B < f)
  (hlen : r.reframe.length = f) (hinp : inp.length = f)
  (hbuf : ∀ j, buf j = if j < B then r.reframe.getD j 0
    else inp.getD (j - B) 0 >>> b ||| (if j = B then r.carry else inp.getD (j - B - 1) 0 <<< (8 - b)))

include hB hb hBf hlen hinp hbuf

/-- `buf[0 .. F + B − 1]`. -/
theorem buffer_eq_map : r.buffer inp = (List.range (B + f)).map buf := by
  have hover : r.reframe.take B = (List.range B).map buf := by
    rw [take_eq_map_getD (hlen ▸ hBf.le) 0]
    refine List.map_congr_left fun j hj => ?_
    rw [hbuf, if_pos (List.mem_range.mp hj)]
  have hshift : (shiftBytes b r.carry inp).1 = (List.range f).map fun j => buf (B + j) := by
    rw [shiftBytes_fst, hinp]
    refine List.map_congr_left fun j _ => ?_
    have hfirst : B + j = B ↔ j = 0 := by omega
    rw [hbuf, if_neg (Nat.not_lt.mpr (Nat.le_add_right B j)), Nat.add_sub_cancel_left]
    simp only [hfirst]
  rw [Realigner.buffer, ← hB, ← hb, hover, hshift, List.range_add, List.map_append, List.map_map]
  rfl

theorem output_eq_map : r.output f inp = (List.range f).map buf := by
  rw [Realigner.output, buffer_eq_map hB hb hBf hlen hinp hbuf, Nat.add_comm, ← List.map_take, List.take_range,
    Nat.min_eq_left (Nat.le_add_right f B)]

theorem next_eq_map : r.next f inp =
    { offset := r.offset
      carry := inp.getD (f - 1) 0 <<< (8 - b)
      reframe := (List.range f).map fun j => if j < B then buf (f + j) else 0 } := by
  have hcarry : (shiftBytes b r.carry inp).2 = inp.getD (f - 1) 0 <<< (8 - b) := by
    rw [shiftBytes_snd b r.carry (hinp ▸ Nat.one_le_of_lt hBf), hinp]
  have hover : (r.buffer inp).drop f = (List.range B).map fun j => buf (f + j) := by
    rw [buffer_eq_map hB hb hBf hlen hinp hbuf, Nat.add_comm, List.range_add, List.map_append,
      List.drop_left' (by simp), List.map_map]
    rfl
  have hreframe : ((List.range B).map fun j => buf (f + j)) ++ List.replicate (f - B) 0 =
      (List.range f).map fun j => if j < B then buf (f + j) else 0 := by
    refine List.ext_getElem (by simp; omega) fun j _ _ => ?_
    by_cases hj : j < B <;> simp [List.getElem_append, hj]
  rw [Realigner.next, ← hB, ← hb, hcarry, hover, hreframe]

end Bytes

/-! ### One frame as bits (20_memory.md R64; 46_realigner.md R222) -/

section Bits

/-- The bits of one byte, the earlier one the more significant. -/
def byteBits (c : Byte) : List Bool := (List.range 8).map fun k => c.getLsbD (7 - k)

@[simp] theorem byteBits_length (c : Byte) : (byteBits c).length = 8 := by simp [byteBits]

@[simp] theorem byteBits_getElem (c : Byte) (k : Nat) (h : k < (byteBits c).length) :
    (byteBits c)[k] = c.getLsbD (7 - k) := by simp [byteBits]

theorem byteBits_zero : byteBits 0 = List.replicate 8 false := by decide

@[simp] theorem bitsOf_nil : bitsOf [] = [] := rfl

@[simp] theorem bitsOf_cons (c : Byte) (cs : List Byte) : bitsOf (c :: cs) = byteBits c ++ bitsOf cs := rfl

@[simp] theorem bitsOf_append (xs ys : List Byte) : bitsOf (xs ++ ys) = bitsOf xs ++ bitsOf ys := List.flatMap_append

theorem bitsOf_replicate_zero (n : Nat) : bitsOf (List.replicate n 0) = List.replicate (8 * n) false := by
  induction n with
  | zero => rfl
  | succ n ih =>
    rw [List.replicate_succ, bitsOf_cons, ih, byteBits_zero, List.replicate_append_replicate, Nat.mul_succ, Nat.add_comm]

theorem bitsOf_length (xs : List Byte) : (bitsOf xs).length = 8 * xs.length := by
  induction xs with
  | nil => rfl
  | cons c cs ih => simp [ih]; omega

variable {b : Nat}

/-- The carry holds nothing below its top `b` bits. -/
theorem getLsbD_of_carry {carry : Byte} (h : ∃ k, carry.toNat = k * 2 ^ (8 - b)) {j : Nat} (hj : j < 8 - b) :
    carry.getLsbD j = false := by
  obtain ⟨k, hk⟩ := h
  rw [← BitVec.testBit_toNat, hk, Nat.testBit_mul_two_pow]
  rw [decide_eq_false (Nat.not_le.mpr hj), Bool.false_and]

/-- A byte leaves shifted with the carry's `b` bits before its own first ones. -/
theorem byteBits_shifted (hb : b ≤ 8) (c : Byte) {carry : Byte} (h : ∃ k, carry.toNat = k * 2 ^ (8 - b)) :
    byteBits (c >>> b ||| carry) = (byteBits carry).take b ++ (byteBits c).take (8 - b) := by
  refine List.ext_getElem (by simp; omega) fun k hk _ => ?_
  rw [byteBits_length] at hk
  by_cases hkb : k < b
  · have hout : c.getLsbD (b + (7 - k)) = false := BitVec.getLsbD_of_ge _ _ (by omega)
    simp [hkb, hout, hb]
  · have hlow : carry.getLsbD (7 - k) = false := getLsbD_of_carry h (by omega)
    have hown : b + (7 - k) = 7 - (k - b) := by omega
    simp [List.getElem_append, hkb, hlow, hown, hb]

/-- The byte's last `b` bits are the carry's first. -/
theorem byteBits_carried (hb : b ≤ 8) (c : Byte) :
    (byteBits (c <<< (8 - b))).take b = (byteBits c).drop (8 - b) := by
  refine List.ext_getElem (by simp; omega) fun k hk _ => ?_
  have hkb : k < b := by simp at hk; omega
  have hsource : 7 - k - (8 - b) = 7 - (8 - b + k) := by omega
  have hin : 7 - k < 8 ∧ ¬ 7 - k < 8 - b := by omega
  rw [List.getElem_take, List.getElem_drop, byteBits_getElem, byteBits_getElem, BitVec.getLsbD_shiftLeft, hsource]
  simp [hin]

/-- The bits of the carry and the input leave as the shifted bytes and the new carry. -/
theorem shiftBytes_stream (hb : b ≤ 8) {carry : Byte} (h : ∃ k, carry.toNat = k * 2 ^ (8 - b)) (inp : List Byte) :
    (byteBits carry).take b ++ bitsOf inp =
      bitsOf (shiftBytes b carry inp).1 ++ (byteBits (shiftBytes b carry inp).2).take b := by
  induction inp generalizing carry with
  | nil => simp [shiftBytes]
  | cons c cs ih =>
    have hcarry : ∃ k, (c <<< (8 - b)).toNat = k * 2 ^ (8 - b) := shiftLeft_multiple c (Nat.sub_le 8 b)
    calc (byteBits carry).take b ++ bitsOf (c :: cs)
        = ((byteBits carry).take b ++ (byteBits c).take (8 - b)) ++ ((byteBits c).drop (8 - b) ++ bitsOf cs) := by
          rw [bitsOf_cons, List.append_assoc, ← List.append_assoc (List.take (8 - b) _), List.take_append_drop]
      _ = byteBits (c >>> b ||| carry) ++ ((byteBits (c <<< (8 - b))).take b ++ bitsOf cs) := by
          rw [byteBits_shifted hb c h, byteBits_carried hb]
      _ = _ := by rw [ih hcarry, ← List.append_assoc]; rfl

/-- The bits not yet emitted: the overlap's whole bytes, then the top of the carry (46_realigner.md R222). -/
def heldBits (r : Realigner) : List Bool :=
  bitsOf (r.reframe.take (r.offset.toNat / 8)) ++ (byteBits r.carry).take (r.offset.toNat % 8)

variable {p : Params} {r : Realigner} {inp : List Byte}

theorem output_length (r : Realigner) (hinp : inp.length = p.f) : (r.output p.f inp).length = p.f := by
  simp [Realigner.output, Realigner.buffer, shiftBytes_length, hinp]

/-- The bytes past the frame are the overlap the next frame emits first. -/
theorem take_reframe_next (h : RealignerOk p r) (hinp : inp.length = p.f) :
    (r.next p.f inp).reframe.take (r.offset.toNat / 8) = (r.buffer inp).drop p.f := by
  refine List.take_left' ?_
  have hlt := h.overlap_lt
  simp only [Realigner.buffer, List.length_drop, List.length_append, List.length_take, shiftBytes_length, h.reframe, hinp]
  omega

/-- A frame emits the held bits and its own, and holds back what is left. -/
theorem realign_stream (h : RealignerOk p r) (hinp : inp.length = p.f) :
    heldBits r ++ bitsOf inp = bitsOf (r.output p.f inp) ++ heldBits (r.next p.f inp) := by
  have hb : r.offset.toNat % 8 ≤ 8 := (Nat.mod_lt _ (by decide)).le
  calc heldBits r ++ bitsOf inp
      = bitsOf (r.buffer inp) ++
          (byteBits (shiftBytes (r.offset.toNat % 8) r.carry inp).2).take (r.offset.toNat % 8) := by
        rw [heldBits, List.append_assoc, shiftBytes_stream hb h.carry, Realigner.buffer, bitsOf_append, List.append_assoc]
    _ = bitsOf (r.output p.f inp) ++ heldBits (r.next p.f inp) := by
        rw [← List.take_append_drop p.f (r.buffer inp), ← take_reframe_next h hinp, bitsOf_append, List.append_assoc]
        rfl

end Bits

end Sys2Proof.Machine

namespace Sys2Proof.Statements

open Sys2Proof.Machine Sys2Proof.Safety

/-- Settles O56: the owner's operation runs its step. -/
theorem raSetAlignment : Obligations.RaSetAlignment := by
  intro s i nBits hi hlt howner
  exact exec_raSetAlignment_of hi (List.getElem?_eq_getElem hlt) howner

/-- Settles O57: `buf` lists the realigner's buffer, its first F bytes and the ones past them. -/
theorem raRealignFrame : Obligations.RaRealignFrame := by
  rintro s i r B b inp buf hi hr howner - hf hlen hB hBf hb rfl hbuf
  have hinp : s.frameOperand.length = s.cfg.f := by simp [State.frameOperand, hf]
  rw [exec_raRealignFrame_of hi hr howner (by omega), output_eq_map hB hb hBf hlen hinp hbuf,
    next_eq_map hB hb hBf hlen hinp hbuf]
  rfl

/-! ### Successive frames (46_realigner.md R222) -/

/-- The outputs and the realigner after one frame after the other. -/
def realignFrames (f : Nat) : Realigner → List (List Byte) → List (List Byte) × Realigner
  | r, [] => ([], r)
  | r, inp :: inps =>
    let rest := realignFrames f (r.next f inp) inps
    (r.output f inp :: rest.1, rest.2)

section Frames

variable {p : Params} {r : Realigner}

/-- The held bits and the frames' own leave in order, and what is left is held. -/
theorem realignFrames_stream (h : RealignerOk p r) {inps : List (List Byte)} (hinps : ∀ inp ∈ inps, inp.length = p.f) :
    heldBits r ++ bitsOf inps.flatten =
      bitsOf (realignFrames p.f r inps).1.flatten ++ heldBits (realignFrames p.f r inps).2 := by
  induction inps generalizing r with
  | nil => simp [realignFrames]
  | cons inp inps ih =>
    obtain ⟨hinp, hrest⟩ := List.forall_mem_cons.mp hinps
    calc heldBits r ++ bitsOf (inp :: inps).flatten
        = (heldBits r ++ bitsOf inp) ++ bitsOf inps.flatten := by simp
      _ = bitsOf (r.output p.f inp) ++ (heldBits (r.next p.f inp) ++ bitsOf inps.flatten) := by
          rw [realign_stream h hinp, List.append_assoc]
      _ = _ := by rw [ih (realignerOk_next h hinp) hrest]; simp [realignFrames]

theorem realignFrames_length (f : Nat) (r : Realigner) (inps : List (List Byte)) :
    (realignFrames f r inps).1.length = inps.length := by
  induction inps generalizing r with
  | nil => rfl
  | cons inp inps ih => simp [realignFrames, ih]

theorem realignFrames_flatten_length (r : Realigner) {inps : List (List Byte)}
    (hinps : ∀ inp ∈ inps, inp.length = p.f) :
    (realignFrames p.f r inps).1.flatten.length = p.f * inps.length := by
  induction inps generalizing r with
  | nil => rfl
  | cons inp inps ih =>
    obtain ⟨hinp, hrest⟩ := List.forall_mem_cons.mp hinps
    simp only [realignFrames, List.flatten_cons, List.length_append, List.length_cons, output_length r hinp,
      ih (r.next p.f inp) hrest]
    rw [Nat.mul_succ, Nat.add_comm]

/-- `fr` on port A (30_encoding.md R82). -/
def withFrame (s : State) (fr : Vector Byte 32) : State := { s with portA := { s.portA with frame := fr } }

theorem realignAll_cons {i : BitVec 8} {fr : Vector Byte 32} {frs : List (Vector Byte 32)} {s t : State} {a : Agent}
    {out : List Byte} {os : List Obs} (hexec : exec (.raRealignFrame i) (withFrame s fr) = .next t)
    (hobs : t.obs = .result a (.ok (.frame out)) :: os) :
    realignAll i (fr :: frs) s = (realignAll i frs t).map fun o => (out :: o.1, o.2) := by
  rw [withFrame] at hexec
  simp only [realignAll, hexec, hobs]

/-- What a frame passed by the owner leaves for the next one: the configuration, the realigner, the owner's turn. -/
theorem exec_withFrame {i : BitVec 8} {s : State} (fr : Vector Byte 32) (hi : i.toNat < s.cfg.raCount)
    (howner : ActsFor s s.cfg.raOwner[i.toNat]?) (hr : s.realigners[i.toNat]? = some r) (hok : RealignerOk s.cfg r) :
    ∃ t, exec (.raRealignFrame i) (withFrame s fr) = .next t ∧ t.cfg = s.cfg ∧
      t.realigners[i.toNat]? = some (r.next s.cfg.f (fr.toList.take s.cfg.f)) ∧ ActsFor t s.cfg.raOwner[i.toNat]? ∧
      t.obs = .result s.agent (.ok (.frame (r.output s.cfg.f (fr.toList.take s.cfg.f)))) :: s.obs := by
  obtain ⟨hlt, -⟩ := List.getElem?_eq_some_iff.mp hr
  have hover : r.offset.toNat / 8 ≤ r.reframe.length := hok.reframe ▸ hok.overlap_lt.le
  refine ⟨_, exec_raRealignFrame_of (s := withFrame s fr) hi hr howner hover, complete_cfg _ _, ?_,
    actsFor_complete (s := (withFrame s fr).setRealigner _ _) howner _, complete_obs _ _⟩
  rw [complete_realigners]
  exact List.getElem?_set_self hlt

/-- RA_REALIGN_FRAME on one frame after the other answers the realigner's outputs. -/
theorem realignAll_eq {i : BitVec 8} {frames : List (Vector Byte 32)} {s : State} (hp : s.cfg = p)
    (hi : i.toNat < p.raCount) (howner : ActsFor s p.raOwner[i.toNat]?) (hf : p.f ≤ 32)
    (hr : s.realigners[i.toNat]? = some r) (hok : RealignerOk p r) :
    ∃ t, realignAll i frames s = some ((realignFrames p.f r (frames.map fun fr => fr.toList.take p.f)).1, t) := by
  induction frames generalizing s r with
  | nil => exact ⟨s, rfl⟩
  | cons fr frs ih =>
    subst hp
    obtain ⟨t, hexec, hcfg, hnext, howner', hobs⟩ := exec_withFrame fr hi howner hr hok
    obtain ⟨u, hu⟩ := ih hcfg howner' hnext (realignerOk_next hok (by simp [hf]))
    exact ⟨u, by rw [realignAll_cons hexec hobs, hu]; rfl⟩

end Frames

/-- A realigner just set holds back as many zero bits as its offset (46_realigner.md R220). -/
theorem heldBits_of_set {f : Nat} {off : Byte} (hoff : off.toNat < f * 8) :
    heldBits { offset := off, carry := 0, reframe := List.replicate f 0 } = List.replicate off.toNat false := by
  have hB : min (off.toNat / 8) f = off.toNat / 8 := by omega
  have hb : min (off.toNat % 8) 8 = off.toNat % 8 := by omega
  simp only [heldBits, List.take_replicate, hB, bitsOf_replicate_zero, byteBits_zero, hb, List.replicate_append_replicate,
    Nat.div_add_mod]

theorem realignerOk_of_set {p : Params} {off : Byte} (hoff : off.toNat < p.f * 8) :
    RealignerOk p { offset := off, carry := 0, reframe := List.replicate p.f 0 } :=
  ⟨hoff, List.length_replicate, fun j _ hj => by simp [hj], 0, by simp⟩

/-- Settles O58: the zero bits held at the start and the frames' bits leave in order (`realignFrames_stream`). -/
theorem streamDelayed : Obligations.StreamDelayed := by
  intro s i off frames howner hi _ hf hoff hr
  have hok := realignerOk_of_set hoff
  have hinps : ∀ inp ∈ frames.map (fun fr => fr.toList.take s.cfg.f), inp.length = s.cfg.f := by
    simp only [List.forall_mem_map, List.length_take, Vector.length_toList]
    omega
  obtain ⟨t, hall⟩ := realignAll_eq (frames := frames) rfl hi howner hf hr hok
  refine ⟨_, t, hall, by rw [realignFrames_length, List.length_map], ?_⟩
  rw [← heldBits_of_set hoff, realignFrames_stream hok hinps, List.take_left']
  rw [bitsOf_length, realignFrames_flatten_length _ hinps, List.length_map, Nat.mul_assoc]

end Sys2Proof.Statements

/-! # Steps without an operation word, one by one

POLL waiting, the dispatch, the DAC sink's acceptance, the withheld result (60_exceptions.md R248–R252, R258), and which
word each agent presents. -/

namespace Sys2Proof.Machine

open Sys2Proof.Statements Sys2Proof.Safety

variable {s : State}

/-! ### A step without a word -/

theorem step_of_no_word (hl : Live s) (hn : s.currentOp s.nextEvent = none) :
    step s = settle (taken s) ((taken s).otherStep s.nextEvent) := by
  rw [step_of_live hl, stepEvent, currentOp_takeEvent, hn]
  rfl

/-! ### The dispatch (60_exceptions.md R248–R250) -/

theorem pending_iff {h : Handler} : s.pending h = true ↔ Pending s h := by
  cases h with
  | capIsr => exact decide_eq_true_iff
  | xchIsr d => cases d <;> exact Bool.and_eq_true_iff.trans (and_congr_right' decide_eq_true_iff)
  | ftIsr => exact Bool.and_eq_true_iff

theorem mayDispatch_iff {h : Handler} :
    s.mayDispatch h = true ↔ s.isr = none ∧ s.primask = false ∧ Pending s h := by
  simp [State.mayDispatch, pending_iff, and_assoc]

theorem dispatch_of_not_mayDispatch {h : Handler} (hm : ¬ s.mayDispatch h = true) : s.dispatch h = s := if_neg hm

/-! ### POLL (60_exceptions.md R252 (2), R258) -/

theorem currentOp_poll_of_waiting (h : s.isr ≠ none ∨ s.poll.hold ≠ none) : s.currentOp .poll = none := by
  have hno : s.pollMayStep = false := by
    rcases h with h | h <;> simp [State.pollMayStep, h, Option.isSome_iff_ne_none.mpr h]
  simp [State.currentOp, hno]

theorem pollOther_of_active (h : s.isr ≠ none) : s.pollOther = s := by
  obtain ⟨c, hc⟩ := Option.ne_none_iff_exists'.mp h
  rw [State.pollOther, hc]

theorem pollOther_of_unaccepted {d : DacHold} (h : s.poll.hold = some d) (ha : d.accepted = false) : s.pollOther = s := by
  unfold State.pollOther
  split
  · rename_i d' _ hd'
    obtain rfl : d' = d := Option.some.inj (hd'.symm.trans h)
    simp [ha]
  · simp_all
  · rfl

theorem pollOther_of_accepted {d : DacHold} (hi : s.isr = none) (h : s.poll.hold = some d) (ha : d.accepted = true) :
    s.pollOther = s.endHold d := by
  simp [State.pollOther, hi, h, ha]

/-- The withheld result is delivered, POLL's next operation is next (60_exceptions.md R258). -/
theorem endHold_eq (s : State) (d : DacHold) : s.endHold d = { s with
    agent := .poll
    obs := .result .poll d.result :: s.obs
    poll := { s.poll with hold := none, prog := s.poll.prog.tail, index := s.poll.index + 1, stage := .start } } :=
  rfl

/-! ### The interrupt context (30_encoding.md R86) -/

theorem currentOp_isr_of {c : IsrCtx} {o : IssuedOp} (hc : s.isr = some c) (ho : s.isrOp c = some o) :
    s.currentOp .isr = some (.isr, o) := by
  simp [State.currentOp, hc, ho]

/-- ALIGN_STEP presents its own word but at its request (44_alignment.md R190). -/
theorem isrOp_of_align {c : IsrCtx} (h : scanning c.cb = true ∧ c.cb ≠ .alignRequest ∨ c.cb = .alignEntry) :
    s.isrOp c = some (s.plainOp .alignStep) := by
  cases hcb : c.cb <;> simp [hcb, scanning] at h <;> simp [State.isrOp, hcb]

end Sys2Proof.Machine

namespace Sys2Proof.Statements

open Sys2Proof.Machine Sys2Proof.Safety

/-- Settles O18: the state of the invariant that the step answers has no fault. -/
theorem invMakesStepSafe : Obligations.InvMakesStepSafe := fun _ h =>
  let ⟨t, ht, hinv⟩ := step_keeps h
  ⟨t, ht, hinv.faults⟩

/-- Settles O7: issuing puts the agent and its operands on the ports. -/
theorem stepRunsDecodedInstr : Obligations.StepRunsDecodedInstr := fun _ _ _ _ hl hop hi => step_of_currentOp hl hop hi

/-- Settles O8: each agent by its control point. -/
theorem agentPresentsOperation : Obligations.AgentPresentsOperation := by
  refine ⟨fun _ _ _ => rfl, fun s o rest hi hh hb hp => ?_, fun s h => currentOp_poll_of_waiting h, fun s c hc hcb => ?_,
    fun s c hc h => ?_, fun s c hc hcb => ?_, fun s c st o hc hcb ho => ?_⟩
  · simp [State.currentOp, State.pollMayStep, State.nextPollOp, hi, hh, hb, hp]
  · exact currentOp_isr_of hc (by rw [State.isrOp, hcb]; rfl)
  · have hword : encode .alignStep = 0x40000000 := by decide
    rw [currentOp_isr_of hc (isrOp_of_align h), State.plainOp, hword]
  · have hword : encode (.phaseRequest .increase) = 0x50000001 := by decide
    rw [currentOp_isr_of hc (o := s.plainOp (.phaseRequest .increase)) (by rw [State.isrOp, hcb]), State.plainOp, hword]
  · exact currentOp_isr_of hc (by rw [State.isrOp, hcb]; dsimp only; rw [ho])

/-- Settles O10: the dispatch may be taken, or the event passes. -/
theorem dispatchStep : Obligations.DispatchStep := by
  intro s h hl he
  refine ⟨fun hmay => step_of_dispatch hl he (mayDispatch_iff.mpr hmay), fun hno => ?_⟩
  rw [step_of_no_word hl (by rw [he]; rfl), he]
  exact congrArg Host.Outcome.next (dispatch_of_not_mayDispatch (s := taken s) (mt mayDispatch_iff.mp hno))

/-- Settles O13: the acceptance with and without a hold; POLL's event by whether it waits. -/
theorem dacAcceptance : Obligations.DacAcceptance := by
  refine ⟨fun s h hl he hh => ?_, fun s hl he hh => ?_, fun s h hl he hh => ?_⟩
  · rw [step_of_no_word hl (by rw [he]; rfl), he]
    simp [State.otherStep, State.dacReady, taken, hh]
  · rw [step_of_no_word hl (by rw [he]; rfl), he]
    simp [State.otherStep, State.dacReady, taken, hh]
  · have hstep : step s = .next (taken s).pollOther := by
      rw [step_of_no_word hl (by rw [he]; exact currentOp_poll_of_waiting (.inr (by simp [hh]))), he]
      rfl
    rw [hstep]
    refine ⟨fun hwait => congrArg Host.Outcome.next ?_, fun hi ha => congrArg Host.Outcome.next ?_⟩
    · rcases hwait with hi | ha
      · exact pollOther_of_active (s := taken s) hi
      · exact pollOther_of_unaccepted (s := taken s) hh ha
    · exact (pollOther_of_accepted (s := taken s) hi hh ha).trans (endHold_eq (taken s) h)

/-- Settles O59: the critical section around the answer, which leaves PRIMASK 0. -/
theorem statsSnapshot : Obligations.StatsSnapshot := by
  intro s ha
  have hbody : critical (fun s => .ok (s.complete (.ok (.snapshot s.snapshot)))) s =
      .ok { State.complete { s with primask := true } (.ok (.snapshot s.snapshot)) with primask := false } :=
    critical_of rfl
  change byAgent .poll _ s = _
  rw [byAgent_of _ ha, hbody, settle_ok]
  exact congrArg Host.Outcome.next (complete_setPrimask { s with primask := true } false _).symm

end Sys2Proof.Statements

/-! # Contexts over every step

What operations and steps leave of the control points: POLL's is moved by POLL alone, the active handler stays the active
one or ends (60_exceptions.md R250–R253). -/

namespace Sys2Proof.Machine

open Sys2Proof.Statements

/-- The active handler (10_state.md R56). -/
def State.active (s : State) : Option Handler := s.isr.map IsrCtx.handler

/-- What an operation leaves of the contexts: POLL's control point unless POLL issued it, the active handler unless it ended. -/
structure ContextsKept (s t : State) : Prop where
  agent : t.agent = s.agent
  poll : s.agent ≠ .poll → t.poll = s.poll
  active : t.active = none ∨ t.active = s.active

variable {s t u : State}

/-! ### The active handler under the updates of the issuing context -/

theorem active_of_some {c : IsrCtx} (hc : s.isr = some c) : s.active = some c.handler := by simp [State.active, hc]

theorem active_of_none (hc : s.isr = none) : s.active = none := by simp [State.active, hc]

@[simp] theorem setStage_active (s : State) (st : RbStage) : (s.setStage st).active = s.active := by
  obtain ⟨a, ha⟩ | ha | ⟨ha, hx⟩ | ⟨c, st', ha, hc, hcb⟩ := issuer_cases s
  · rw [setStage_of_hw ha]
  · rw [setStage_of_poll ha]; rfl
  · rw [setStage_of_handler ha hx]
  · rw [setStage_of_callback ha hc hcb, active_of_some hc]; rfl

@[simp] theorem advance_active (s : State) : s.advance.active = s.active := by
  obtain ⟨a, ha⟩ | ha | ⟨ha, hx⟩ | ⟨c, st, ha, hc, hcb⟩ := issuer_cases s
  · rw [advance_of_hw ha]
  · rw [advance_of_poll ha]; rfl
  · rw [advance_of_handler ha hx]
  · rw [advance_of_callback ha hc hcb, active_of_some hc]; rfl

theorem setStage_poll_of_other (h : s.agent ≠ .poll) (st : RbStage) : (s.setStage st).poll = s.poll := by
  obtain ⟨a, ha⟩ | ha | ⟨ha, hx⟩ | ⟨c, st', ha, hc, hcb⟩ := issuer_cases s
  · rw [setStage_of_hw ha]
  · exact absurd ha h
  · rw [setStage_of_handler ha hx]
  · rw [setStage_of_callback ha hc hcb]

/-! ### Updates that keep the contexts -/

theorem ContextsKept.of_eq (ha : t.agent = s.agent := by rfl) (hp : t.poll = s.poll := by rfl)
    (hi : t.isr = s.isr := by rfl) : ContextsKept s t :=
  ⟨ha, fun _ => hp, .inr (congrArg (Option.map IsrCtx.handler) hi)⟩

theorem contextsKept_self (s : State) : ContextsKept s s := .of_eq

theorem ContextsKept.trans (h : ContextsKept s t) (h' : ContextsKept t u) : ContextsKept s u where
  agent := h'.agent.trans h.agent
  poll hne := (h'.poll (h.agent.symm ▸ hne)).trans (h.poll hne)
  active := h'.active.elim .inl fun e => e ▸ h.active

theorem contextsKept_mark (s : State) (r : Fault) : ContextsKept s (s.mark r) := .of_eq

theorem contextsKept_advance (s : State) : ContextsKept s s.advance :=
  ⟨advance_agent s, advance_poll_of_isr, .inr (advance_active s)⟩

theorem contextsKept_refuse (s : State) : ContextsKept s s.refuse :=
  .trans (t := { s with refused := true }) .of_eq (contextsKept_advance _)

theorem ContextsKept.observe (h : ContextsKept s t) {o : Obs} : ContextsKept s (t.observe o) :=
  h.trans .of_eq

theorem ContextsKept.complete (h : ContextsKept s t) {r : Result} : ContextsKept s (t.complete r) :=
  h.observe.trans (contextsKept_advance _)

theorem ContextsKept.setStage (h : ContextsKept s t) {st : RbStage} : ContextsKept s (t.setStage st) :=
  h.trans ⟨setStage_agent t st, fun hne => setStage_poll_of_other hne st, .inr (setStage_active t st)⟩

theorem ContextsKept.setXch (h : ContextsKept s t) {d : Dir} {e : Exchange} : ContextsKept s (t.setXch d e) :=
  h.trans (.of_eq (setXch_agent t d e) (setXch_poll t d e) (setXch_isr t d e))

/-- The active handler goes on. -/
theorem ContextsKept.setIsr (h : ContextsKept s t) {c c' : IsrCtx} (hc : t.isr = some c) (hh : c'.handler = c.handler) :
    ContextsKept s (t.setIsr c') :=
  h.trans ⟨rfl, fun _ => rfl, .inr (by rw [active_of_some hc, ← hh]; rfl)⟩

theorem ContextsKept.leaveHandler (h : ContextsKept s t) {i : Instr} {r : Result} : ContextsKept s (t.leaveHandler i r) :=
  h.trans ⟨rfl, fun _ => rfl, .inl rfl⟩

theorem ContextsKept.leaveExchange (h : ContextsKept s t) {c : IsrCtx} : ContextsKept s (t.leaveExchange c) :=
  h.trans ⟨leaveExchange_agent t c, fun _ => leaveExchange_poll t c, .inl (active_of_none (leaveExchange_isr t c))⟩

/-! ### Who issues -/

theorem settle_contexts {e : Except Fault State} (h : settle s e = .next t) (he : e = .ok t → ContextsKept s t) :
    ContextsKept s t := by
  rcases settle_cases h with h | ⟨r, -, rfl⟩
  · exact he h
  · exact contextsKept_mark s r

theorem byAgent_contexts {a : Agent} {f : State → Except Fault State} (h : byAgent a f s = .next t)
    (hf : s.agent = a → f s = .ok t → ContextsKept s t) : ContextsKept s t := by
  rcases byAgent_cases h with ⟨ha, h⟩ | ⟨-, r, -, rfl⟩ | ⟨-, rfl⟩
  · exact hf ha h
  · exact contextsKept_mark s r
  · exact contextsKept_refuse s

/-- An operation on a ring or a realigner, in range or not. -/
theorem bySide_contexts {p : Prop} [Decidable p] {side : Option Ctx} {f : State → Except Fault State}
    (h : (if p then bySide side f s else .next s.refuse) = .next t) (hf : f s = .ok t → ContextsKept s t) :
    ContextsKept s t := by
  split at h
  · rcases bySide_cases h with ⟨-, h⟩ | ⟨-, r, -, rfl⟩ | ⟨-, rfl⟩
    · exact hf h
    · exact contextsKept_mark s r
    · exact contextsKept_refuse s
  · cases h; exact contextsKept_refuse s

theorem byHandler_contexts {hd : Handler} {f : IsrCtx → State → Except Fault State} (h : byHandler hd f s = .next t)
    (hf : ∀ c, s.isr = some c → f c s = .ok t → ContextsKept s t) : ContextsKept s t := by
  rcases byHandler_cases h with ⟨c, -, hc, -, -, h | ⟨r, -, rfl⟩⟩ | rfl
  · exact hf c hc h
  · exact contextsKept_mark s r
  · exact contextsKept_refuse s

theorem critical_contexts {f : State → Except Fault State} (h : critical f s = .ok t)
    (hf : ∀ u, f { s with primask := true } = .ok u → ContextsKept { s with primask := true } u) : ContextsKept s t := by
  obtain ⟨u, hu, rfl⟩ := critical_ok h
  obtain ⟨hagent, hpoll, hactive⟩ := hf u hu
  exact ⟨hagent, hpoll, hactive⟩

/-! ### LockFreeRingBuffer and BitRealigner -/

theorem putStep_contexts {i : Nat} (h : putStep i s = .ok t) : ContextsKept s t := by
  have hbegin : putBegin i s = .ok t → ContextsKept s t := by
    intro h
    obtain ⟨r, -, h⟩ := unitAt_bind_ok h
    dsimp only at h
    split at h <;> cases h
    · exact (contextsKept_self s).complete
    · exact (contextsKept_self s).setStage
  unfold putStep at h
  split at h
  · obtain ⟨r, -, h⟩ := unitAt_bind_ok h
    obtain ⟨r', -, h⟩ := bind_ok h
    cases h
    exact .setStage .of_eq
  · obtain ⟨r, -, h⟩ := unitAt_bind_ok h
    cases h
    exact .complete .of_eq
  all_goals exact hbegin h

theorem getStep_contexts {i : Nat} (h : getStep i s = .ok t) : ContextsKept s t := by
  have hbegin : getBegin i s = .ok t → ContextsKept s t := by
    intro h
    obtain ⟨r, -, h⟩ := unitAt_bind_ok h
    split at h <;> cases h
    · exact (contextsKept_self s).complete
    · exact (contextsKept_self s).setStage
  unfold getStep at h
  split at h
  · obtain ⟨r, -, h⟩ := unitAt_bind_ok h
    obtain ⟨v, -, h⟩ := bind_ok h
    cases h
    exact (contextsKept_self s).setStage
  · obtain ⟨r, -, h⟩ := unitAt_bind_ok h
    cases h
    exact .complete .of_eq
  all_goals exact hbegin h

theorem setAlignmentStep_contexts {i : Nat} {n : Half} (h : setAlignmentStep i n s = .ok t) : ContextsKept s t := by
  obtain ⟨r, -, h⟩ := unitAt_bind_ok h
  cases h
  exact .complete .of_eq

theorem realignStep_contexts {i : Nat} (h : realignStep i s = .ok t) : ContextsKept s t := by
  obtain ⟨r, -, h⟩ := unitAt_bind_ok h
  split at h <;> cases h
  exact .complete .of_eq

/-! ### POLL's other operations -/

theorem capPollStep_contexts (h : capPollStep s = .ok t) : ContextsKept s t := by
  obtain ⟨rising, -, h⟩ := bind_ok h
  obtain ⟨falling, -, h⟩ := bind_ok h
  cases h
  exact .complete .of_eq

/-- POLL's pulse may hold POLL; it leaves the interrupt context. -/
theorem steerStep_contexts (ha : s.agent = .poll) (h : steerStep s = .ok t) : ContextsKept s t := by
  obtain ⟨⟨v, r⟩, -, rfl⟩ := map_ok h
  unfold State.endPulse
  dsimp only
  split
  · exact .complete .of_eq
  · exact ⟨rfl, fun hne => absurd ha hne, .inr rfl⟩

theorem xchStartStep_contexts (h : xchStartStep s = .ok t) : ContextsKept s t := by
  unfold xchStartStep at h
  split at h <;> cases h
  · exact contextsKept_refuse s
  · exact .complete .of_eq

/-! ### The engines and the timers -/

theorem dmaStep_contexts {d : Dir} (h : dmaStep d s = .ok t) : ContextsKept s t := by
  unfold dmaStep at h
  split at h
  · cases d with
    | rx =>
      obtain ⟨m, -, rfl⟩ := map_ok h
      exact (contextsKept_self s).setXch
    | tx =>
      obtain ⟨v, -, rfl⟩ := map_ok h
      exact .of_eq
  · cases h
    cases d with
    | rx => exact contextsKept_self s
    | tx => exact .of_eq

theorem execCapCntTick_contexts (h : execCapCntTick s = .next t) : ContextsKept s t :=
  byAgent_contexts h fun _ h => by cases h; exact .of_eq

theorem execCapEdge_contexts {kind : EdgeKind} (h : execCapEdge kind s = .next t) : ContextsKept s t :=
  byAgent_contexts h fun _ h => by cases h; exact .of_eq

theorem ftTickStep_contexts (h : ftTickStep s = .ok t) : ContextsKept s t := by
  unfold ftTickStep at h
  split at h <;> cases h <;> exact .of_eq

/-! ### The handlers -/

section Handlers

variable {c : IsrCtx} (hc : s.isr = some c)
include hc

theorem capIsrStep_contexts (h : capIsrStep c s = .ok t) : ContextsKept s t := by
  have hstay : ∀ c', c'.handler = c.handler → ContextsKept s (s.setIsr c') := fun _ => (contextsKept_self s).setIsr hc
  unfold capIsrStep at h
  split at h
  · cases h
    exact .setIsr .of_eq hc rfl
  · cases h
    exact hstay _ rfl
  · split at h
    · obtain ⟨v, -, rfl⟩ := map_ok h
      exact hstay _ rfl
    · cases h
      exact hstay _ rfl
  · split at h
    · obtain ⟨v, -, rfl⟩ := map_ok h
      exact hstay _ rfl
    · cases h
      exact hstay _ rfl
  · cases h
    exact .leaveHandler .of_eq
  · cases h
    exact contextsKept_refuse s

theorem xchIsrStep_contexts {d : Dir} (h : xchIsrStep d c s = .ok t) : ContextsKept s t := by
  have hstay : ∀ c', c'.handler = c.handler → ContextsKept s (s.setIsr c') := fun _ => (contextsKept_self s).setIsr hc
  have hwrite : ∀ e c', c'.handler = c.handler → ContextsKept s ((s.setXch d e).setIsr c') := fun e _ hh =>
    (contextsKept_self s).setXch.setIsr ((setXch_isr s d e).trans hc) hh
  unfold xchIsrStep at h
  split at h <;> cases h
  · exact hwrite _ _ rfl
  · unfold xchPublish
    dsimp only
    split
    · exact hwrite _ _ rfl
    · exact hstay _ rfl
  · unfold xchArm
    dsimp only
    split
    · exact hwrite _ _ rfl
    · exact hstay _ rfl
  · unfold xchRestartCur
    dsimp only
    split
    · exact hwrite _ _ rfl
    · exact hstay _ rfl
  · unfold xchRestartNxt
    dsimp only
    split
    · exact hwrite _ _ rfl
    · exact hstay _ rfl
  · unfold xchCallback
    split
    · exact hstay _ rfl
    · exact (contextsKept_self s).leaveExchange
  · exact contextsKept_refuse s

theorem ftIsrStep_contexts (h : ftIsrStep c s = .ok t) : ContextsKept s t := by
  unfold ftIsrStep at h
  split at h
  · cases h
    exact .setIsr .of_eq hc rfl
  · obtain ⟨pend, -, rfl⟩ := map_ok h
    exact .leaveHandler .of_eq
  · cases h
    exact contextsKept_refuse s

theorem alignStage_contexts (h : alignStage c s = .ok t) : ContextsKept s t := by
  unfold alignStage at h
  split at h
  · cases h
    unfold alignCount
    dsimp only
    split
    · exact .leaveExchange .of_eq
    · exact .setIsr .of_eq hc rfl
  · obtain ⟨w0, -, rfl⟩ := map_ok h
    exact .setIsr .of_eq hc rfl
  · obtain ⟨w8, -, rfl⟩ := map_ok h
    unfold alignJudge
    split
    · split
      · exact .setIsr .of_eq hc rfl
      · exact .leaveExchange .of_eq
    · exact .setIsr .of_eq hc rfl
  · cases h
    unfold alignFinish
    split <;> exact .leaveExchange .of_eq
  all_goals
    cases h
    exact contextsKept_refuse s

end Handlers

/-! ### ALIGN_STEP and its request -/

theorem execAlignStep_contexts (h : execAlignStep s = .next t) : ContextsKept s t := by
  unfold execAlignStep at h
  split at h
  · rename_i c _ hc
    split at h
    · exact settle_contexts h (alignStage_contexts hc)
    · cases h; exact contextsKept_refuse s
  · cases h; exact contextsKept_refuse s

theorem phaseStep_contexts {dir : Nudge} {deliver : State → Result → State}
    (hd : ∀ t r, ContextsKept s t → ContextsKept s (deliver t r)) (h : phaseStep dir deliver s = .ok t) :
    ContextsKept s t := by
  obtain ⟨pend, -, h⟩ := bind_ok h
  split at h <;> cases h
  · exact hd _ _ (contextsKept_self s)
  · exact hd _ _ .of_eq

theorem ContextsKept.answerAlign (h : ContextsKept s t) {r : Result} : ContextsKept s (t.answerAlign r) := by
  unfold State.answerAlign
  split
  · rename_i c hc
    exact h.observe.setIsr hc rfl
  · exact h

theorem execPhaseRequest_contexts {dir : Nudge} (h : execPhaseRequest dir s = .next t) : ContextsKept s t := by
  unfold execPhaseRequest at h
  split at h
  · exact settle_contexts h fun h => critical_contexts h fun _ h => phaseStep_contexts (fun _ _ h => h.complete) h
  · split at h
    · exact settle_contexts h fun h => phaseStep_contexts (fun _ _ h => h.answerAlign) h
    · cases h; exact contextsKept_refuse s
  · cases h; exact contextsKept_refuse s

/-! ### Every operation -/

/-- An operation moves POLL only where POLL issues it, and starts no handler. -/
theorem exec_contexts {i : Instr} (h : exec i s = .next t) : ContextsKept s t := by
  cases i with
  | rbPut n => exact bySide_contexts h putStep_contexts
  | rbGet n => exact bySide_contexts h getStep_contexts
  | capCntTick => exact execCapCntTick_contexts h
  | capEdge kind => exact execCapEdge_contexts h
  | capIsr => exact byHandler_contexts h fun _ => capIsrStep_contexts
  | capPoll => exact byAgent_contexts h fun _ h => critical_contexts h fun _ => capPollStep_contexts
  | steerPulse => exact byAgent_contexts h steerStep_contexts
  | xchStart => exact byAgent_contexts h fun _ => xchStartStep_contexts
  | dmaWord d => exact byAgent_contexts h fun _ => dmaStep_contexts
  | xchIsr d => exact byHandler_contexts h fun _ hc => xchIsrStep_contexts hc
  | alignStep => exact execAlignStep_contexts h
  | phaseRequest dir => exact execPhaseRequest_contexts h
  | ftTick => exact byAgent_contexts h fun _ => ftTickStep_contexts
  | ftIsr => exact byHandler_contexts h fun _ => ftIsrStep_contexts
  | raSetAlignment n bits => exact bySide_contexts h setAlignmentStep_contexts
  | raRealignFrame n => exact bySide_contexts h realignStep_contexts
  | statsSnapshot =>
    exact byAgent_contexts h fun _ h => critical_contexts h fun _ h => by cases h; exact (contextsKept_self _).complete

/-! ### Steps -/

/-- POLL waits: a handler is active, or a DAC hold the sink has not accepted is in force (60_exceptions.md R251, R258). -/
def State.waiting (s : State) : Prop := s.isr ≠ none ∨ ∃ h, s.poll.hold = some h ∧ h.accepted = false

theorem currentOp_poll_of_pollWaiting (h : s.waiting) : s.currentOp .poll = none :=
  currentOp_poll_of_waiting (h.imp_right fun ⟨d, hd, _⟩ => by simp [hd])

theorem pollOther_of_waiting (h : s.waiting) : s.pollOther = s := by
  rcases h with hi | ⟨d, hd, hacc⟩
  · exact pollOther_of_active hi
  · exact pollOther_of_unaccepted hd hacc

/-- The agent that presents a word while POLL waits is another one. -/
theorem agent_ne_poll_of_waiting {e : Event} {a : Agent} {o : IssuedOp} (h : s.waiting) (hop : s.currentOp e = some (a, o)) :
    a ≠ .poll := by
  rintro rfl
  cases e with
  | poll => simp [currentOp_poll_of_pollWaiting h] at hop
  | isr => simp [State.currentOp, Option.bind_eq_some_iff] at hop
  | _ => simp [State.currentOp] at hop

/-- The interrupt context's step without a word. -/
theorem isrOther_contexts (h : s.isrOther = .ok t) : t.poll = s.poll ∧ (t.active = none ∨ t.active = s.active) := by
  rcases isrOther_cases h with ⟨c, w, v, m, -, -, -, -, rfl⟩ | rfl | ⟨c, -, rfl⟩ | rfl
  · exact ⟨advance_poll_of_isr nofun, .inr (advance_active _)⟩
  · exact ⟨advance_poll_of_isr nofun, .inr (advance_active _)⟩
  · exact ⟨(leaveExchange_poll _ _).trans (advance_poll_of_isr nofun), .inl (active_of_none (leaveExchange_isr _ _))⟩
  · exact ⟨rfl, .inr rfl⟩

theorem dacReady_cases (s : State) :
    (∃ h, s.poll.hold = some h ∧ s.dacReady = { s with poll := { s.poll with hold := some { h with accepted := true } } }) ∨
    s.dacReady = s := by
  unfold State.dacReady
  split
  · rename_i h hh
    exact .inl ⟨h, hh, rfl⟩
  · exact .inr rfl

/-- A step of an event while POLL waits leaves POLL's control point, but for the acceptance mark. -/
theorem stepEvent_poll {e : Event} (hw : s.waiting) (h : stepEvent e s = .next t) :
    t.poll = s.poll ∨
    (e = .dacReady ∧ ∃ d, s.poll.hold = some d ∧ t.poll = { s.poll with hold := some { d with accepted := true } }) := by
  rcases stepEvent_cases h with ⟨a, o, i, hop, -, h⟩ | ⟨a, o, hop, rfl⟩ | ⟨-, h⟩
  · exact .inl ((exec_contexts h).poll (agent_ne_poll_of_waiting hw hop))
  · exact .inl ((contextsKept_refuse _).poll (agent_ne_poll_of_waiting hw hop))
  · rcases settle_cases h with h | ⟨r, -, rfl⟩
    · cases e with
      | hw a o => cases h; exact .inl rfl
      | poll => cases h; exact .inl (by rw [pollOther_of_waiting hw])
      | isr => exact .inl (isrOther_contexts h).1
      | dispatch hd =>
        cases h
        unfold State.dispatch
        split <;> exact .inl rfl
      | dacReady =>
        cases h
        rcases dacReady_cases s with ⟨d, hd, ht⟩ | ht <;> rw [ht]
        · exact .inr ⟨rfl, d, hd, rfl⟩
        · exact .inl rfl
    · exact .inl rfl

/-- A step of the interrupt context starts no handler. -/
theorem stepEvent_isr_active (h : stepEvent .isr s = .next t) : t.active = none ∨ t.active = s.active := by
  rcases stepEvent_cases h with ⟨a, o, i, -, -, h⟩ | ⟨a, o, -, rfl⟩ | ⟨-, h⟩
  · exact (exec_contexts h).active
  · exact (contextsKept_refuse _).active
  · rcases settle_cases h with h | ⟨r, -, rfl⟩
    · exact (isrOther_contexts h).2
    · exact .inr rfl

/-- Only the dispatch of its pending source, PRIMASK being 0, makes a handler active (60_exceptions.md R250). -/
theorem isr_of_stepEvent_dispatch {hd : Handler} (h : stepEvent (.dispatch hd) s = .next t) (hne : t.isr ≠ s.isr) :
    s.isr = none ∧ s.primask = false ∧ Pending s hd ∧ t.isr = some (IsrCtx.enter hd) := by
  cases h
  unfold State.dispatch at hne ⊢
  split at hne
  · rename_i hm
    obtain ⟨hi, hp, hpend⟩ := mayDispatch_iff.mp hm
    exact ⟨hi, hp, hpend, by rw [if_pos hm]; rfl⟩
  · exact absurd rfl hne

/-- How the interrupt context moves over a step: not at all, by its own step, or by a dispatch while no handler is active. -/
theorem step_isr_cases (h : step s = .next t) :
    t.isr = s.isr ∨ (s.nextEvent = .isr ∧ (t.active = none ∨ t.active = s.active)) ∨
    ∃ hd, s.nextEvent = .dispatch hd ∧ s.isr = none ∧ s.primask = false ∧ Pending s hd ∧
      t.isr = some (IsrCtx.enter hd) := by
  by_cases hne : t.isr = s.isr
  · exact .inl hne
  · rcases (step_cases h).2 with hev | rfl
    · rcases step_isr h hne with he | ⟨hd, he⟩ <;> rw [he] at hev
      · exact .inr (.inl ⟨he, stepEvent_isr_active (s := s.takeEvent) hev⟩)
      · exact .inr (.inr ⟨hd, he, isr_of_stepEvent_dispatch (s := s.takeEvent) hev hne⟩)
    · exact absurd rfl hne

end Sys2Proof.Machine

namespace Sys2Proof.Statements

open Sys2Proof.Machine

/-- Settles O11: the cases of `step_isr_cases`. -/
theorem handlersStartOnlyByDispatch : Obligations.HandlersStartOnlyByDispatch := by
  intro s t h
  refine ⟨fun hi c hc => ?_, fun c hc => ?_, fun c hc he => ?_⟩
  · rcases step_isr_cases h with hsame | ⟨-, hact⟩ | ⟨hd, he, -, hp, hpend, ht⟩
    · simp [hsame, hi] at hc
    · simp [active_of_some hc, active_of_none hi] at hact
    · exact ⟨hd, he, hp, hpend, Option.some.inj (hc.symm.trans ht)⟩
  · rcases step_isr_cases h with hsame | ⟨-, hact⟩ | ⟨hd, -, hi, -⟩
    · exact .inr ⟨c, hsame.trans hc, rfl⟩
    · rw [active_of_some hc] at hact
      exact hact.imp Option.map_eq_none_iff.mp Option.map_eq_some_iff.mp
    · simp [hc] at hi
  · rcases step_isr_cases h with hsame | ⟨hisr, -⟩ | ⟨hd, -, hi, -⟩
    · exact hsame.trans hc
    · exact absurd hisr he
    · simp [hc] at hi

/-- Settles O12: while POLL waits, the only event that moves its control point is the sink's acceptance. -/
theorem pollWaits : Obligations.PollWaits := by
  intro s t h hw
  rcases (step_cases h).2 with h | rfl
  · exact stepEvent_poll (s := s.takeEvent) hw h
  · exact .inl rfl

end Sys2Proof.Statements

/-! # Model faults: where each operation meets one

Reads of elements without a value, indices out of range, ST_STATE and PA_PEND outside their values (60_exceptions.md R246):
first the primitives, then each operation up to the fault it records. -/

namespace Sys2Proof.Machine

open Sys2Proof.Statements

variable {s : State} {r : Fault}

/-! ### Computations that meet a fault -/

theorem bind_error {α β : Type} {x : Except Fault α} (h : x = .error r) (f : α → Except Fault β) : (x >>= f) = .error r :=
  h ▸ rfl

theorem map_error {α β : Type} {x : Except Fault α} (h : x = .error r) (f : α → β) : x.map f = .error r := h ▸ rfl

theorem byAgent_fault {a : Agent} {f : State → Except Fault State} (ha : s.agent = a) (h : f s = .error r) :
    byAgent a f s = .next (s.mark r) := by
  rw [byAgent_of f ha, h, settle_error]

theorem byHandler_fault {hd : Handler} {c : IsrCtx} {mu : Nat} {f : IsrCtx → State → Except Fault State}
    (h : InHandler s c hd mu) (hf : c.mu = mu → f c s = .error r) : byHandler hd f s = .next (s.mark r) := by
  obtain ⟨ha, hc, hh, hcb, hmu⟩ := h
  rw [byHandler_of f ha hc hh hcb, hf hmu, settle_error]

theorem critical_fault {f : State → Except Fault State} (h : f { s with primask := true } = .error r) :
    critical f s = .error r :=
  map_error h _

/-! ### Registers, memories, units -/

theorem reg_read_unwritten {α : Type} {q : Reg α} (h : q.written = false) : q.read = .error .unwrittenRead := by
  simp [Reg.read, h]

/-- Two registers read one after the other, one of them without a value. -/
theorem reads_unwritten {α β γ : Type} {x : Reg α} {y : Reg β} (h : x.written = false ∨ y.written = false)
    (f : α → β → Except Fault γ) : (x.read >>= fun a => y.read >>= fun b => f a b) = .error .unwrittenRead := by
  cases hx : x.written with
  | false => exact bind_error (reg_read_unwritten hx) _
  | true =>
    rw [reg_read_written hx]
    exact bind_error (reg_read_unwritten (h.resolve_left (by simp [hx]))) _

theorem unitAt_outside {α : Type} {l : List α} {i : Nat} (h : l.length ≤ i) : unitAt l i = .error .slotIndex := by
  simp [unitAt, h]

theorem readWord_outside {n : Nat} {m : Memory} {k w : Nat} (h : n ≤ k ∨ 16 ≤ w) :
    Memory.readWord n m k w = .error .slotIndex :=
  if_neg fun ⟨hk, hw⟩ => h.elim (Nat.not_le_of_lt hk) (Nat.not_le_of_lt hw)

theorem writeWord_outside {n : Nat} {m : Memory} {k w : Nat} (h : n ≤ k ∨ 16 ≤ w) (v : Word) :
    Memory.writeWord n m k w v = .error .slotIndex :=
  if_neg fun ⟨hk, hw⟩ => h.elim (Nat.not_le_of_lt hk) (Nat.not_le_of_lt hw)

theorem readSlot_unwritten {ring : Ring} {j : Nat} {c : Reg Nat} (hc : ring.buf[j]? = some c) (hw : c.written = false) :
    ring.readSlot j = .error .unwrittenRead := by
  rw [Ring.readSlot, hc]
  exact reg_read_unwritten hw

theorem readSlot_outside {ring : Ring} {j : Nat} (h : ring.buf.length ≤ j) : ring.readSlot j = .error .slotIndex := by
  simp [Ring.readSlot, h]

theorem writeSlot_outside {ring : Ring} {j : Nat} (h : ring.buf.length ≤ j) (v : Nat) :
    ring.writeSlot j v = .error .slotIndex :=
  if_neg (Nat.not_lt_of_le h)

/-! ### LockFreeRingBuffer -/

section Ring

variable {i : BitVec 8} {ring : Ring} {j : Nat}

theorem putStep_noRing (h : s.rings.length ≤ j) : putStep j s = .error .slotIndex := by
  unfold putStep
  split <;> exact bind_error (unitAt_outside h) _

theorem putStep_outside {w nw : Nat} (hr : s.rings[j]? = some ring) (hst : s.stage = .putStore j w nw)
    (h : ring.buf.length ≤ w) : putStep j s = .error .slotIndex := by
  have hstore : putStep j s = putStore j w nw s := by simp [putStep, hst, RbStage.on]
  rw [hstore, putStore, unitAt_some hr]
  exact bind_error (writeSlot_outside h _) _

theorem getStep_noRing (h : s.rings.length ≤ j) : getStep j s = .error .slotIndex := by
  unfold getStep
  split <;> exact bind_error (unitAt_outside h) _

/-- RB_GET μ2 passes on the fault of its read. -/
theorem getStep_read_fault {k : Nat} (hr : s.rings[j]? = some ring) (hst : s.stage = .getRead j k)
    (h : ring.readSlot k = .error r) : getStep j s = .error r := by
  have hread : getStep j s = getRead j k s := by simp [getStep, hst, RbStage.on]
  rw [hread, getRead, unitAt_some hr]
  exact bind_error h _

theorem exec_rbPut_fault (hi : i.toNat < s.cfg.rbCount) (h : ActsFor s s.cfg.rbProducer[i.toNat]?)
    (hf : putStep i.toNat s = .error r) : exec (.rbPut i) s = .next (s.mark r) := by
  rw [exec_rbPut_of hi h, hf, settle_error]

theorem exec_rbGet_fault (hi : i.toNat < s.cfg.rbCount) (h : ActsFor s s.cfg.rbConsumer[i.toNat]?)
    (hf : getStep i.toNat s = .error r) : exec (.rbGet i) s = .next (s.mark r) := by
  rw [exec_rbGet_of hi h, hf, settle_error]

end Ring

/-! ### TimestampCapture -/

theorem mailbox_unwritten {isNew : Bool} {q : Reg Word} (hn : isNew = true) (hw : q.written = false) :
    mailbox isNew q = .error .unwrittenRead :=
  (if_pos hn).trans (map_error (reg_read_unwritten hw) some)

/-- CAP_POLL reads the rising mailbox, then the falling one. -/
theorem capPollStep_unwritten
    (h : (isNewR s.cap.fresh = true ∧ s.cap.tsR.written = false) ∨
      (isNewF s.cap.fresh = true ∧ s.cap.tsF.written = false)) :
    capPollStep s = .error .unwrittenRead := by
  by_cases hR : isNewR s.cap.fresh = true → s.cap.tsR.written = true
  · obtain ⟨hn, hw⟩ := h.resolve_left fun ⟨hn, hw⟩ => by simp [hR hn] at hw
    rw [capPollStep, mailbox_of_written hR]
    exact bind_error (mailbox_unwritten hn hw) _
  · rw [Classical.not_imp, Bool.not_eq_true] at hR
    exact bind_error (mailbox_unwritten hR.1 hR.2) _

theorem capIsrStep_rising_unwritten {c : IsrCtx} (h : c.mu = 3) (hl : isLdr c.hSr = true) (hw : s.cap.latchR.written = false) :
    capIsrStep c s = .error .unwrittenRead := by
  rw [capIsrStep, h]
  exact (if_pos hl).trans (map_error (reg_read_unwritten hw) _)

theorem capIsrStep_falling_unwritten {c : IsrCtx} (h : c.mu = 4) (hl : isLdf c.hSr = true) (hw : s.cap.latchF.written = false) :
    capIsrStep c s = .error .unwrittenRead := by
  rw [capIsrStep, h]
  exact (if_pos hl).trans (map_error (reg_read_unwritten hw) _)

/-! ### OscillatorSteering -/

section Steering

variable {p : Params} {st : Steering} {v : Servo} {ts : Word} {x : Int}

theorem exec_steerPulse_fault (hg : GateOpen s) (h : acceptedPulse s.cfg s.portA.word s.gated = .error r) :
    exec .steerPulse s = .next (s.mark r) := by
  obtain ⟨ha, hgate⟩ := hg
  have hpulse : steerPulse s.cfg s.tsOperand s.tickOperand { st := s.steer, stats := s.stats, dac := none } = .error r :=
    (if_pos (gateAccepts_iff.mpr hgate)).trans h
  exact byAgent_fault (f := steerStep) ha (map_error hpulse _)

theorem acceptedPulse_badState (h : 5 ≤ v.st.state.toNat) : acceptedPulse p ts v = .error .badSteeringState := by
  have hcases : v.st.state.toNat = 5 ∨ v.st.state.toNat = 6 ∨ v.st.state.toNat = 7 := by omega
  rcases hcases with hs | hs | hs <;> rw [acceptedPulse, hs] <;> rfl

theorem accumulate_unwritten {acc : Reg Word} (hn : st.count.toNat ≤ p.periods) (hw : acc.written = false) :
    accumulate p st acc x = .error .unwrittenRead :=
  (if_pos (decide_eq_true hn)).trans (map_error (reg_read_unwritten hw) _)

theorem calMinPulse_unwritten (hn : v.st.count.toNat ≤ p.periods) (hw : v.st.minOffset.written = false) :
    calMinPulse p ts x v = .error .unwrittenRead :=
  bind_error (accumulate_unwritten (st := (v.snap ts).st) hn hw) _

theorem calMaxPulse_unwritten (hn : v.st.count.toNat ≤ p.periods) (hw : v.st.maxOffset.written = false) :
    calMaxPulse p ts x v = .error .unwrittenRead :=
  bind_error (accumulate_unwritten (st := (v.snap ts).st) hn hw) _

theorem finishCalibration_unwritten (h : v.st.minOffset.written = false ∨ v.st.maxOffset.written = false) :
    finishCalibration p v = .error .unwrittenRead :=
  reads_unwritten h _

/-- The last CalibrateMax pulse reads both accumulators, whether it accumulates or not. -/
theorem calMaxPulse_last_unwritten (hn : v.st.count = 1)
    (h : v.st.minOffset.written = false ∨ v.st.maxOffset.written = false) :
    calMaxPulse p ts x v = .error .unwrittenRead := by
  have hlast : v.st.count - 1 = 0 := sub_eq_zero.mpr hn
  cases hmax : v.st.maxOffset.written with
  | true =>
    rw [calMaxPulse_of_written hmax, if_pos hlast]
    exact finishCalibration_unwritten (.inl (h.resolve_right (by simp [hmax])))
  | false =>
    by_cases hacc : v.st.count.toNat ≤ p.periods
    · exact calMaxPulse_unwritten hacc hmax
    · have hkept : accumulate p (v.snap ts).st (v.snap ts).st.maxOffset x = .ok v.st.maxOffset :=
        if_neg (by rw [accumulates, decide_eq_true_iff]; exact hacc)
      rw [calMaxPulse, hkept]
      exact (if_pos hlast).trans (finishCalibration_unwritten (.inr hmax))

theorem correct_unwritten (h : v.st.slope.written = false ∨ v.st.dacCenter.written = false) :
    correct p x v = .error .unwrittenRead :=
  reads_unwritten h _

theorem freqPulse_unwritten (h : v.st.slope.written = false ∨ v.st.dacCenter.written = false) :
    freqPulse p ts x v = .error .unwrittenRead := by
  refine bind_error (correct_unwritten ?_) _
  exact h

theorem phasePulse_unwritten (h : v.st.slope.written = false ∨ v.st.dacCenter.written = false) :
    phasePulse p x v = .error .unwrittenRead := by
  refine bind_error (correct_unwritten ?_) _
  exact h

theorem acceptedPulse_discipline_unwritten (hs : v.st.state = 3 ∨ v.st.state = 4)
    (h : v.st.slope.written = false ∨ v.st.dacCenter.written = false) :
    acceptedPulse p ts v = .error .unwrittenRead := by
  rcases hs with hs | hs <;> rw [acceptedPulse, hs]
  · exact congrArg (Except.map fun v => (v, Result.ok .unit)) (freqPulse_unwritten h)
  · exact congrArg (Except.map fun v => (v, Result.ok .unit)) (phasePulse_unwritten h)

end Steering

/-! ### SerialFrameExchange -/

theorem exec_dmaWord_outside {d : Dir} {slot pos : Byte} {nxt : DmaNxt} (ha : s.agent = .hw (dmaAgent d))
    (ht : transfer (s.xch d) = some (slot, pos, nxt)) (h : s.cfg.depth d ≤ slot.toNat ∨ 16 ≤ pos.toNat) :
    exec (.dmaWord d) s = .next (s.mark .slotIndex) := by
  refine byAgent_fault (f := dmaStep d) ha ?_
  rw [dmaStep_of_transfer ht]
  cases d with
  | rx => exact map_error (writeWord_outside h _) _
  | tx => exact map_error (readWord_outside h) _

/-- The transmit callback's store into a slot out of range. -/
theorem isrOther_txFill_outside {c : IsrCtx} {w : BitVec 4} {v : Word} (hc : s.isr = some c) (hh : c.handler = .xchIsr .tx)
    (hitem : s.nextCbItem = .fill w v) (h : s.cfg.nTx ≤ c.done.toNat) : s.isrOther = .error .slotIndex := by
  have hfill : s.isrOther = State.fillSlot { s with agent := .isr } c w v := by simp [State.isrOther, hc, hitem]
  rw [hfill, State.fillSlot, hh]
  exact map_error (writeWord_outside (.inl h) v) _

/-! ### FrameAlignmentDetector -/

theorem exec_alignStep_outside {c : IsrCtx} {k : Nat} {w0 : Word}
    (h : InAlign s c (.alignEven k) ∨ InAlign s c (.alignOdd k w0)) (hk : s.cfg.nRx ≤ k) : exec .alignStep s = .next (s.mark .slotIndex) := by
  have hread : ∀ w, Memory.readWord s.cfg.nRx s.rx.slots k w = .error .slotIndex := fun _ => readWord_outside (.inl hk)
  change execAlignStep s = _
  rcases h with ⟨ha, hc, hh, hcb⟩ | ⟨ha, hc, hh, hcb⟩
  · simp [execAlignStep, ha, hc, hh, alignStage, hcb, alignEven, hread, Except.map]
  · simp [execAlignStep, ha, hc, hh, alignStage, hcb, alignOdd, hread, Except.map]

/-! ### FrameClockPhaseAdjuster and frame timer -/

theorem readPend_stuck {f : FrameTimer} (h : f.pend = 3) : f.readPend = .error .mailboxStuck := if_pos h

theorem exec_phaseRequest_stuck {dir : Nudge}
    (h : s.agent = .poll ∨ (s.agent = .isr ∧ ∃ c, s.isr = some c ∧ c.cb = .alignRequest)) (hp : s.ft.pend = 3) :
    exec (.phaseRequest dir) s = .next (s.mark .mailboxStuck) := by
  rcases h with ha | ⟨ha, c, hc, hcb⟩
  · have hstep : critical (phaseStep dir State.complete) s = .error .mailboxStuck :=
      critical_fault (bind_error (readPend_stuck hp) _)
    change execPhaseRequest dir s = _
    simp only [execPhaseRequest, ha]
    rw [hstep, settle_error]
  · have hstep : phaseStep dir State.answerAlign s = .error .mailboxStuck := bind_error (readPend_stuck hp) _
    rw [exec_phaseRequest_of_alignRequest ha hc hcb, hstep, settle_error]

theorem ftIsrStep_stuck {c : IsrCtx} (h : c.mu = 2) (hp : s.ft.pend = 3) : ftIsrStep c s = .error .mailboxStuck := by
  rw [ftIsrStep, h]
  exact map_error (readPend_stuck hp) _

/-! ### BitRealigner -/

section Realign

variable {i : BitVec 8} (hi : i.toNat < s.cfg.raCount) (h : ActsFor s s.cfg.raOwner[i.toNat]?)
include hi h

theorem exec_raSetAlignment_fault {n : Half} (hf : setAlignmentStep i.toNat n s = .error r) :
    exec (.raSetAlignment i n) s = .next (s.mark r) :=
  (if_pos hi).trans ((bySide_of _ (actsFor_of h)).trans (by rw [hf, settle_error]))

theorem exec_raRealignFrame_fault (hf : realignStep i.toNat s = .error r) :
    exec (.raRealignFrame i) s = .next (s.mark r) :=
  (if_pos hi).trans ((bySide_of _ (actsFor_of h)).trans (by rw [hf, settle_error]))

end Realign

theorem realignStep_overlap_outside {i : Nat} {q : Realigner} (hq : s.realigners[i]? = some q)
    (h : q.reframe.length < q.offset.toNat / 8) : realignStep i s = .error .slotIndex := by
  rw [realignStep, unitAt_some hq]
  exact if_neg (Nat.not_le_of_lt h)

/-! ### The machine -/

theorem step_of_faulted {rest : List Fault} (h : s.faults = r :: rest) : step s = .fault r := by
  rw [step, h]

theorem step_of_badConfig (hf : s.faults = []) (hv : s.cfg.valid = false) : step s = .next { s with faults := [.badConfig] } := by
  simp [step, hf, hv, State.mark]

end Sys2Proof.Machine

namespace Sys2Proof.Statements

open Sys2Proof.Machine

/-- STEER_PULSE behind the gate reads a register that holds no value, by the steering state. -/
theorem exec_steerPulse_unwritten {s : State} (hg : GateOpen s)
    (h : (s.steer.state = 1 ∧ s.steer.count.toNat ≤ s.cfg.periods ∧ s.steer.minOffset.written = false) ∨
      (s.steer.state = 2 ∧ s.steer.count.toNat ≤ s.cfg.periods ∧ s.steer.maxOffset.written = false) ∨
      (s.steer.state = 2 ∧ s.steer.count = 1 ∧ (s.steer.minOffset.written = false ∨ s.steer.maxOffset.written = false)) ∨
      ((s.steer.state = 3 ∨ s.steer.state = 4) ∧ (s.steer.slope.written = false ∨ s.steer.dacCenter.written = false))) :
    exec .steerPulse s = .next (s.mark .unwrittenRead) := by
  refine exec_steerPulse_fault hg ?_
  rcases h with ⟨hs, hn, hw⟩ | ⟨hs, hn, hw⟩ | ⟨hs, hn, hw⟩ | ⟨hs, hw⟩
  · exact (acceptedPulse_calMin (v := s.gated) hs).trans (calMinPulse_unwritten hn hw)
  · exact (acceptedPulse_calMax (v := s.gated) hs).trans (calMaxPulse_unwritten hn hw)
  · exact (acceptedPulse_calMax (v := s.gated) hs).trans (calMaxPulse_last_unwritten hn hw)
  · exact acceptedPulse_discipline_unwritten hs hw

/-- Settles O60: each operation's body ends in its fault, which its step records. -/
theorem modelFaults : Obligations.ModelFaults := by
  refine ⟨fun _ _ _ => step_of_faulted, fun _ => step_of_badConfig, fun _ _ => rfl, ?capPoll, ?capIsr,
    fun _ => exec_steerPulse_unwritten, ?getUnwritten, fun s hg hs => ?badState, fun _ _ => exec_phaseRequest_stuck, ?ftIsr,
    fun _ _ _ _ _ => exec_dmaWord_outside, fun _ _ _ _ => exec_alignStep_outside, ?fill, ?rings, ?realigners⟩
  case capPoll =>
    intro s ha h
    exact byAgent_fault ha (critical_fault (capPollStep_unwritten h))
  case capIsr =>
    rintro s c (⟨h, hl, hw⟩ | ⟨h, hl, hw⟩)
    · exact byHandler_fault h fun hmu => capIsrStep_rising_unwritten hmu hl hw
    · exact byHandler_fault h fun hmu => capIsrStep_falling_unwritten hmu hl hw
  case getUnwritten =>
    intro s i ring k c hi hact hr hst hc hw
    exact exec_rbGet_fault hi hact (getStep_read_fault hr hst (readSlot_unwritten hc hw))
  case badState => exact exec_steerPulse_fault hg (acceptedPulse_badState hs)
  case ftIsr =>
    intro s c h hp
    exact byHandler_fault h fun hmu => ftIsrStep_stuck hmu hp
  case fill =>
    intro s c st w v hl he hc hh hcb hitem hdone
    rw [step_of_callback hl he hc hcb (by simp [hitem]), isrOther_txFill_outside (s := taken s) hc hh hitem hdone, settle_error]
  case rings =>
    intro s i hi
    refine ⟨fun hact h => exec_rbPut_fault hi hact ?_, fun hact h => exec_rbGet_fault hi hact ?_⟩
    · rcases h with hno | ⟨ring, w, nw, hr, hst, hw⟩
      · exact putStep_noRing hno
      · exact putStep_outside hr hst hw
    · rcases h with hno | ⟨ring, k, hr, hst, hk⟩
      · exact getStep_noRing hno
      · exact getStep_read_fault hr hst (readSlot_outside hk)
  case realigners =>
    intro s i hi hact
    refine ⟨fun hno n => exec_raSetAlignment_fault hi hact (bind_error (unitAt_outside hno) _),
      fun h => exec_raRealignFrame_fault hi hact ?_⟩
    rcases h with hno | ⟨q, hq, hover⟩
    · exact bind_error (unitAt_outside hno) _
    · exact realignStep_overlap_outside hq hover

end Sys2Proof.Statements

/-! # Reset and the boot step

What reset leaves in each unit (70_reset_and_hazards.md R270), that the invariant holds there under every valid
configuration (R281), and POLL's first step (R280). -/

namespace Sys2Proof.Machine

open Sys2Proof.Statements

variable {s : State}

/-! ### The boot step (70_reset_and_hazards.md R280) -/

theorem currentOp_poll_of_unbooted (hb : s.poll.booted = false) : s.currentOp .poll = none := by
  simp [State.currentOp, hb]

theorem pollOther_of_unbooted (hi : s.isr = none) (hh : s.poll.hold = none) (hb : s.poll.booted = false) :
    s.pollOther = s.boot := by
  simp [State.pollOther, hi, hh, hb]

/-! ### The units at reset (70_reset_and_hazards.md R270) -/

/-- `RB_WR = RB_RD = 0`, every slot without a value. -/
theorem ring_of_reset {p : Params} {r : Ring} (h : r ∈ (State.resetWith p).rings) :
    r.wr = 0 ∧ r.rd = 0 ∧ r.buf.length = p.rbN + 1 ∧ ∀ c ∈ r.buf, c.written = false := by
  obtain rfl : r = Ring.reset p := List.eq_of_mem_replicate h
  refine ⟨rfl, rfl, List.length_replicate, fun c hc => ?_⟩
  obtain rfl : c = Reg.blank 0 := List.eq_of_mem_replicate hc
  exact reg_blank_written 0

theorem realigner_of_reset {p : Params} {r : Realigner} (h : r ∈ (State.resetWith p).realigners) :
    r.offset = 0 ∧ r.carry = 0 ∧ r.reframe = List.replicate p.f 0 := by
  obtain rfl : r = Realigner.reset p := List.eq_of_mem_replicate h
  exact ⟨rfl, rfl, rfl⟩

/-- Reset puts a realigner where `set_alignment(0)` does (10_state.md R53). -/
theorem realigner_set_zero (p : Params) : Realigner.set p 0 = Realigner.reset p := by
  simp [Realigner.set, Realigner.reset]

theorem xch_reset (p : Params) (d : Dir) : (State.resetWith p).xch d = Exchange.reset p d := by
  cases d <;> rfl

end Sys2Proof.Machine

namespace Sys2Proof.Safety

open Sys2Proof.Machine

/-! ### The invariant at reset, unit by unit -/

theorem not_holdsElement_reset (p : Params) (j : Nat) : ¬ holdsElement p.rbN (Ring.reset p) j := by
  have hempty : occupancy p.rbN (Ring.reset p) = 0 := by simp [occupancy, Ring.reset]
  rw [holdsElement, hempty]
  exact Nat.not_lt_zero _

theorem ringOk_reset (p : Params) : RingOk p.rbN (Ring.reset p) where
  slots := List.length_replicate
  wr := Nat.zero_le _
  rd := Nat.zero_le _
  unread := fun j _ h => absurd h (not_holdsElement_reset p j)

/-- No flag is set, so none promises a value. -/
theorem captureOk_reset : CaptureOk Capture.reset := ⟨nofun, nofun, nofun, nofun⟩

/-- Init reads none of the registers that hold no value. -/
theorem steeringOk_reset (p : Params) : SteeringOk p (Steering.reset p) where
  state := Nat.zero_le _
  calMin := by simp [Steering.reset, stCalMin, stCalMax]
  calMax := by simp [Steering.reset, stCalMax]
  discipline := by simp [Steering.reset, stFreq, stPhase]
  hasCal := by simp [Steering.reset, isHasCal]
  dacRange := fun _ h => by simp [Steering.reset] at h

theorem exchangeOk_reset {p : Params} (hp : p.valid = true) (d : Dir) : ExchangeOk (p.depth d) (Exchange.reset p d) where
  slots := reset_wf p d
  cur := Nat.lt_of_lt_of_le Nat.zero_lt_two (depth_of_valid hp d).1
  last := .inr rfl
  dmaCur := nofun
  dmaNxt := nofun
  buff := by simp [Exchange.reset, isBuff]

theorem frameTimerOk_reset (p : Params) : FrameTimerOk p (FrameTimer.reset p) where
  pend := by simp [FrameTimer.reset]
  armed := fun h => absurd rfl h
  top := .inl rfl

theorem realignerOk_reset {p : Params} (hp : p.valid = true) : RealignerOk p (Realigner.reset p) :=
  realigner_set_zero p ▸ realignerOk_set hp 0

/-- DET_CNT is a full interval away from its scan. -/
theorem detectorOk_reset {p : Params} (hp : p.valid = true) : DetectorOk (State.resetWith p) :=
  detectorOk_iff.mpr ⟨alignCheckInterval_of_valid hp, Nat.le_refl _⟩

end Sys2Proof.Safety

namespace Sys2Proof.Statements

open Sys2Proof.Machine Sys2Proof.Safety

/-- Settles O16: unit by unit; no handler is active, POLL is inside no operation and no source is enabled. -/
theorem resetInvAnyConfig : Obligations.ResetInvAnyConfig := fun p hp =>
  { cfg := hp
    faults := rfl
    primask := rfl
    ringCount := List.length_replicate
    rings := fun _ _ h => List.eq_of_mem_replicate (List.mem_of_getElem? h) ▸ ringOk_reset p
    capture := captureOk_reset
    steering := steeringOk_reset p
    rx := exchangeOk_reset hp .rx
    tx := exchangeOk_reset hp .tx
    detector := detectorOk_reset hp
    timer := frameTimerOk_reset p
    realignerCount := List.length_replicate
    realigners := fun _ _ h => List.eq_of_mem_replicate (List.mem_of_getElem? h) ▸ realignerOk_reset hp
    isr := nofun
    stage := trivial
    boot := fun _ => ⟨rfl, rfl, rfl, rfl, rfl⟩ }

/-- Settles O9: POLL presents no word before it has booted, and its step without one is the boot step. -/
theorem bootStep : Obligations.BootStep := by
  intro s hl he hi hh hb
  rw [step_of_no_word hl (by rw [he]; exact currentOp_poll_of_unbooted hb), he]
  exact congrArg Host.Outcome.next (pollOther_of_unbooted (s := taken s) hi hh hb)

/-- Settles O15: the configuration of log entry 1 is valid. -/
theorem resetInv : Obligations.ResetInv := resetInvAnyConfig Params.default (by decide)

/-- Settles O20: the instanced units by membership, the exchange by direction, the rest at its reset column (10_state.md R59). -/
theorem resetValues : Obligations.ResetValues := by
  intro p
  refine ⟨_, rfl, List.length_replicate, fun _ => ring_of_reset,
    -- capture unit
    rfl, rfl, rfl, rfl, rfl, rfl, rfl, rfl,
    -- steering
    rfl, rfl, rfl, rfl, rfl, rfl, rfl, rfl, rfl, rfl, rfl,
    -- exchange, detector, frame timer
    fun d => ?_, rfl, rfl, rfl, rfl, rfl, rfl,
    -- realigners, contexts, statistics, marks
    List.length_replicate, fun _ => realigner_of_reset, rfl, rfl, rfl, rfl, rfl⟩
  rw [xch_reset]
  exact ⟨rfl, rfl, rfl, rfl, rfl, rfl, rfl, reset_wf p d⟩

end Sys2Proof.Statements
